-- ==== Sys2Proof/Word.lean ====
section
/-! DEFINITION. The two word types of the engine (spec 00_scope.md R7). -/

namespace Sys2Proof

/-- A word: an unsigned integer in 0 .. 2^32 - 1 (R7), bit 31 the most significant.
`+` on it is addition mod 2^32 and `^^^` the bitwise exclusive or (R81). -/
abbrev Word := BitVec 32

/-- A byte: an unsigned integer in 0 .. 255 (R7). -/
abbrev Byte := BitVec 8

/-- An address of the 22-bit flat window `A[21:0]` (20_memory.md R31). -/
abbrev FlatAddr := BitVec 22

end Sys2Proof
end

