-- ==== Sys2Proof/Config.lean ====
section
/-! DEFINITION. The engine's open parameter (00_scope.md R5, 92_eei_decisions.md D14) and the free values that
stand for contents the spec leaves unspecified after reset (10_state.md R24, 93_implementation_defined.md U1, U3). -/

namespace Sys2Proof

/-- A legal value of the parameter `BUF_BYTES` (R5): a multiple of 8 in 8 .. 1048576.
An illegal value cannot be built. -/
structure BufBytes where
  /-- The capacity of each message buffer, in bytes. -/
  bytes : Nat
  multiple : bytes % 8 = 0
  least : 8 ≤ bytes
  most : bytes ≤ 1048576
deriving DecidableEq, Repr

/-- The value every example of the spec uses (R5: "4096 is used in every example of this spec"); log 1. -/
def Config.exampleBufBytes : BufBytes := ⟨4096, by decide, by decide, by decide⟩

/-- The word `P[i]` that reset number `n` leaves (U1: any value). No body: nothing can be proved of it. Log 2. -/
opaque Config.unspecifiedP (n i : Nat) : Word

/-- The word `S[b][j]` that reset number `n` leaves (U1: any value). Log 2. -/
opaque Config.unspecifiedS (n b j : Nat) : Word

/-- The byte `IBUF[off]` that reset number `n` leaves (U3: any value, the same from read to read). Log 3. -/
opaque Config.unspecifiedIbuf (n off : Nat) : Byte

/-- The byte `OBUF[off]` that reset number `n` leaves (U3: any value, the same from read to read). Log 3. -/
opaque Config.unspecifiedObuf (n off : Nat) : Byte

end Sys2Proof
end

