-- ==== Sys2Proof/Syntax.lean ====
section
/-! DEFINITION. The engine's instructions: its five commands (30_encoding.md R50). -/

namespace Sys2Proof

/-- A command of the engine. No command carries an operand or an immediate (R53): every operand is a state element. -/
inductive Instr where
  /-- `KEYINIT`, R70: construct a cipher from the key in the key buffer. -/
  | keyinit
  /-- `ENCB`, R88: encrypt the block in `DL`, `DR`. -/
  | encb
  /-- `DECB`, R89: decrypt the block in `DL`, `DR`. -/
  | decb
  /-- `ENCM`, R95: encrypt the message in `IBUF`. -/
  | encm
  /-- `DECM`, R96: decrypt the message in `IBUF`. -/
  | decm
deriving DecidableEq, Repr

end Sys2Proof
end

