-- ==== Sys2Proof/WellFormed.lean ====
section
/-! DEFINITION. Which command words and which instructions are well formed (30_encoding.md R51, R52). -/

namespace Sys2Proof

/-- The two fields of a command word in format C, the only format (R51). -/
structure FormatC where
  /-- Bits 31:8, must be 0. -/
  RSV : BitVec 24
  /-- Bits 7:0, the opcode. -/
  OP : Byte
deriving DecidableEq, Repr

/-- The word selects a command: `RSV = 0` and `OP` is one of 0x01 to 0x05 (R51). -/
def FormatC.wf (c : FormatC) : Bool :=
  c.RSV == 0 && 1 ≤ c.OP.toNat && c.OP.toNat ≤ 5

/-- The fields of the command word of an instruction (R50, R51). -/
def Instr.format : Instr → FormatC
  | .keyinit => ⟨0, 0x01⟩
  | .encb => ⟨0, 0x02⟩
  | .decb => ⟨0, 0x03⟩
  | .encm => ⟨0, 0x04⟩
  | .decm => ⟨0, 0x05⟩

/-- An instruction is well formed when its fields are; since no command has operands (R53) this is so of all five. -/
def Instr.wf (i : Instr) : Bool := i.format.wf

end Sys2Proof
end

