-- ==== Sys2Proof/Decode.lean ====
section
/-! DEFINITION. Decoding a command word, total on every 32-bit word, and encoding a command
(30_encoding.md R50 to R52). A command word is a 32-bit number, not a byte sequence (20_memory.md R33). -/

namespace Sys2Proof

/-- Why a word is no command (R52); the engine answers each with ILLEGAL_CMD. -/
inductive DecodeError where
  /-- Bits 31:8 are not 0. -/
  | reservedBits (rsv : BitVec 24)
  /-- `RSV = 0`, but no command has this opcode (0x00, 0x06 .. 0xFF). -/
  | noSuchOpcode (op : Byte)
deriving DecidableEq, Repr

/-- The fields of a command word (R51): `RSV` = bits 31:8, `OP` = bits 7:0. -/
def fieldsOfWord (w : Word) : FormatC :=
  ⟨w.extractLsb' 8 24, w.extractLsb' 0 8⟩

/-- The command of an opcode (the table of R50). -/
def commandOfOpcode (op : Byte) : Except DecodeError Instr :=
  match op.toNat with
  | 0x01 => .ok .keyinit
  | 0x02 => .ok .encb
  | 0x03 => .ok .decb
  | 0x04 => .ok .encm
  | 0x05 => .ok .decm
  | _ => .error (.noSuchOpcode op)

/-- The command that a command word selects, or why it selects none (R51, R52). -/
def decode (w : Word) : Except DecodeError Instr :=
  let c := fieldsOfWord w
  if c.RSV = 0 then commandOfOpcode c.OP else .error (.reservedBits c.RSV)

/-- The command word of an instruction: `RSV` in bits 31:8, `OP` in bits 7:0 (R51). -/
def encode (i : Instr) : Word :=
  (i.format.RSV.setWidth 32 <<< 8) ||| i.format.OP.setWidth 32

/-- The command word given by the low `nbits` bits of `w`, every bit above them 0, cut to a word's 32 bits. -/
def tableWord (nbits w : Nat) : Word := BitVec.ofNat 32 (w % 2 ^ nbits)

/-- The instruction the decoder reads from a row of spec/opcode_table.json: bit 0 of the table is bit 0 of the
command word (a row is the whole 32-bit word, "match = opcode, mask = 0xFFFFFFFF", R51). Log 14. -/
def decodeTableWord (nbits w : Nat) : Option Instr :=
  (decode (tableWord nbits w)).toOption

end Sys2Proof
end

