-- ==== Sys2Proof/Machine/Bus.lean ====
section
/-! DEFINITION. What travels over the host port: transactions, responses, resets
(20_memory.md R30, R34, R35; 70_reset_and_hazards.md R130), and the names of the places they reach. -/

namespace Sys2Proof.Machine

/-- The seven registers of the space `REG` (10_state.md R17). -/
inductive Reg where
  | CMD | STATUS | KEYLEN | ILEN | OLEN | DL | DR
deriving DecidableEq, Repr

/-- The three byte spaces (R30). -/
inductive ByteSpace where
  | KEYBUF | IBUF | OBUF
deriving DecidableEq, Repr

/-- The kind, width and write data of a transaction (R34). -/
inductive Access where
  | read8
  | read32
  | write8 (v : Byte)
  | write32 (v : Word)
  /-- A read of any other width (illegal, R34). -/
  | readOther (bits : Nat)
  /-- A write of any other width (illegal, R34). -/
  | writeOther (bits : Nat)
deriving DecidableEq, Repr

/-- The access is a read, of whatever width. -/
def Access.isRead : Access → Bool
  | .read8 => true
  | .read32 => true
  | .readOther _ => true
  | .write8 _ => false
  | .write32 _ => false
  | .writeOther _ => false

/-- A host transaction at a flat address (R34, R58). -/
structure Transaction where
  addr : FlatAddr
  access : Access
deriving DecidableEq, Repr

/-- What one flat address reaches (R31). -/
inductive Target where
  /-- A byte offset of `REG`, populated or not. -/
  | reg (off : Nat)
  | keybuf (i : Fin 72)
  | ibuf (off : Nat)
  | obuf (off : Nat)
  | unmapped
deriving DecidableEq, Repr

/-- A legal transaction (R34), decoded: one of the combinations that get the response OKAY. -/
inductive PortOp where
  | readReg (r : Reg)
  | writeReg (r : Reg) (v : Word)
  | readKeybuf (i : Fin 72)
  | writeKeybuf (i : Fin 72) (v : Byte)
  | readIbuf (off : Nat)
  | writeIbuf (off : Nat) (v : Byte)
  | readObuf (off : Nat)
  | writeObuf (off : Nat) (v : Byte)
deriving DecidableEq, Repr

/-- The response of a transaction (R35). ERROR carries no data (U2). -/
inductive Response where
  /-- OKAY, of a write. -/
  | okay
  /-- OKAY, of an 8-bit read, with the byte read. -/
  | okay8 (v : Byte)
  /-- OKAY, of a 32-bit read, with the number read. -/
  | okay32 (v : Word)
  | error
deriving DecidableEq, Repr

/-- What the outside world does to the engine: a transaction, or a reset, which is no transaction (R58, R131). -/
inductive HostEvent where
  | transaction (t : Transaction)
  | reset
deriving DecidableEq, Repr

end Sys2Proof.Machine
end

