-- ==== Sys2Proof/Machine/Memory.lean ====
section
/-! DEFINITION. The two message buffers as lists of written bytes (20_memory.md R30, R39) in one canonical form. -/

namespace Sys2Proof.Machine

/-- A message buffer: the bytes written since reset, as (offset, byte) pairs with strictly rising offsets.
An offset that is not listed has not been written since reset; it holds no byte here, and what a read of it gives
is said once, in `State.ibufByte` and `State.obufByte` (log 3). -/
abbrev Memory := List Host.Cell

/-- The canonical form: offsets strictly rising and inside a buffer of `size` bytes.
Equal written bytes are then equal lists. -/
abbrev Memory.wf (size : Nat) (m : Memory) : Prop :=
  m.Pairwise (fun x y => x.1 < y.1) ∧ ∀ c ∈ m, c.1 < size

/-- The byte written last at an offset, if any byte was written there since reset. -/
def Memory.lookup : Memory → Nat → Option Byte
  | [], _ => none
  | (k, v) :: m, a => if k = a then some v else Memory.lookup m a

/-- Store one byte, keeping the canonical form. -/
def Memory.write : Memory → Nat → Byte → Memory
  | [], a, b => [(a, b)]
  | (k, v) :: m, a, b =>
    if a < k then (a, b) :: (k, v) :: m
    else if a = k then (a, b) :: m
    else (k, v) :: Memory.write m a b

/-- Store the bytes of a list at `a`, `a + 1`, … -/
def Memory.writeBytes : Memory → Nat → List Byte → Memory
  | m, _, [] => m
  | m, a, b :: bs => Memory.writeBytes (Memory.write m a b) (a + 1) bs

end Sys2Proof.Machine
end

