-- ==== Sys2Proof/Machine/State.lean ====
section
/-! DEFINITION. The engine's state (10_state.md R10), the model's own fields beside it, the reset values (R24),
and the reasons a step could stop. -/

namespace Sys2Proof.Machine

/-- The value of `STATUS.ERR` (10_state.md R19): exactly six results, codes 0 to 5 (U10). -/
inductive ErrCode where
  | ok
  | invalidKey
  | truncatedBlock
  | notKeyed
  | illegalCmd
  | length
deriving DecidableEq, Repr

/-- A P-array: 18 words (R11). -/
abbrev PArray := Vector Word 18

/-- Four S-boxes of 256 words each (R11). -/
abbrev SBoxes := Vector (Vector Word 256) 4

/-- The complete architectural state of the engine "and nothing else" (R10). `CMD` stores nothing (R18) and `STATUS`
is computed from `KEYED` and `ERR` (R19). -/
structure Engine where
  /-- The P-array of the current CipherState (R11). -/
  P : PArray
  /-- The S-boxes of the current CipherState (R11). -/
  S : SBoxes
  /-- `P`, `S` hold a completed CipherState (R19). -/
  KEYED : Bool
  /-- Result code of the most recent command (R19). -/
  ERR : ErrCode
  /-- The key bytes, before a schedule (R15). -/
  KEYBUF : Vector Byte 72
  /-- The key length, 0 .. 72 (R15, R20). -/
  KEYLEN : Fin 73
  /-- Left word of the block (R14). -/
  DL : Word
  /-- Right word of the block (R14). -/
  DR : Word
  /-- The input message buffer (R16). -/
  IBUF : Memory
  /-- Length of the input message (R21). -/
  ILEN : Word
  /-- The output message buffer (R16). -/
  OBUF : Memory
  /-- Length of the output message (R22). -/
  OLEN : Word
deriving DecidableEq, Repr

/-- The machine: the engine, and the model's own fields. -/
structure State extends Engine where
  /-- The parameter `BUF_BYTES` (R5, U12); no step changes it (log 1). -/
  bufBytes : BufBytes
  /-- How many resets have happened; it numbers the free values (log 4). -/
  resets : Nat
  /-- What the host does next, oldest first (R6, R40, log 5). -/
  pending : List HostEvent
  /-- The response of the latest transaction, none after a reset (R35, log 5). -/
  response : Option Response
deriving DecidableEq, Repr

/-- The reasons the engine stops with a fault: none. The spec names no situation in which it stops, every error is a
next state (60_exceptions.md R113) and so is every illegal transaction (20_memory.md R35). Nothing raises a fault,
which is safe (log 13). -/
inductive Fault where
deriving DecidableEq, Repr

/-- The reasons the model gives an instruction no meaning. -/
inductive Refusal where
  /-- An instruction that has no meaning yet, by its mnemonic; raised by `exec` alone. No instruction is left so,
  hence nothing raises it. Raising it would be safe (log 13). -/
  | notModelled (mnemonic : String)
deriving DecidableEq, Repr

/-- Every state element after reset number `n` (R24): registers and `KEYBUF` 0, not keyed; `P`, `S` unspecified
(log 2); no byte of `IBUF`, `OBUF` written (log 3). -/
def Engine.reset (n : Nat) : Engine where
  P := Vector.ofFn fun i => Config.unspecifiedP n i
  S := Vector.ofFn fun b => Vector.ofFn fun j => Config.unspecifiedS n b j
  KEYED := false
  ERR := .ok
  KEYBUF := Vector.replicate 72 0
  KEYLEN := 0
  DL := 0
  DR := 0
  IBUF := []
  ILEN := 0
  OBUF := []
  OLEN := 0

/-- The machine right after reset (R24, R130): the engine at its reset values, nothing for the host to do yet,
`BUF_BYTES` at the examples' 4096 (log 1). -/
def State.reset : State where
  toEngine := Engine.reset 0
  bufBytes := Config.exampleBufBytes
  resets := 0
  pending := []
  response := none

end Sys2Proof.Machine
end

