-- ==== Sys2Proof/Machine/Flags.lean ====
section
/-! DEFINITION. The `STATUS` register, the engine's only flags (10_state.md R19, 60_exceptions.md R110, R111). -/

namespace Sys2Proof.Machine

/-- The 4-bit result code (R19, R110, R111). -/
def errBits : ErrCode → BitVec 4
  | .ok => 0
  | .invalidKey => 1
  | .truncatedBlock => 2
  | .notKeyed => 3
  | .illegalCmd => 4
  | .length => 5

/-- `RegRead(0x04) = KEYED | (ERR << 4)` (R19); bits 3:1 and 31:8 read 0 (U9). -/
def statusWord (keyed : Bool) (err : ErrCode) : Word :=
  (BitVec.ofBool keyed).setWidth 32 ||| ((errBits err).setWidth 32 <<< 4)

end Sys2Proof.Machine
end

