-- ==== Sys2Proof/Machine/Operands.lean ====
section
/-! DEFINITION. How bytes make words, blocks, key words and messages (00_scope.md R7, 30_encoding.md R54 to R57,
44_message_codec.md R91, R92). -/

namespace Sys2Proof.Machine

/-- `be32`: a word from four bytes, first byte most significant (R7, R32). -/
def be32 (b0 b1 b2 b3 : Byte) : Word :=
  (b0.setWidth 32 <<< 24) ||| (b1.setWidth 32 <<< 16) ||| (b2.setWidth 32 <<< 8) ||| b3.setWidth 32

/-- Byte `w[31:24]` (R54: `a`). -/
def byteA (w : Word) : Byte := w.extractLsb' 24 8
/-- Byte `w[23:16]` (R54: `b`). -/
def byteB (w : Word) : Byte := w.extractLsb' 16 8
/-- Byte `w[15:8]` (R54: `c`). -/
def byteC (w : Word) : Byte := w.extractLsb' 8 8
/-- Byte `w[7:0]` (R54: `d`). -/
def byteD (w : Word) : Byte := w.extractLsb' 0 8

/-- `ser32`: the four bytes of a word, most significant first (R7). -/
def ser32 (w : Word) : List Byte := [byteA w, byteB w, byteC w, byteD w]

/-- `Parse`: the block (L, R) of 8 bytes (R55). -/
def parse (c0 c1 c2 c3 c4 c5 c6 c7 : Byte) : Word × Word :=
  (be32 c0 c1 c2 c3, be32 c4 c5 c6 c7)

/-- `Serialise`: the 8 bytes of a block (R55). -/
def serialise (lr : Word × Word) : List Byte := ser32 lr.1 ++ ser32 lr.2

/-- Byte `k mod n` of a key of `n` bytes. For `n ≥ 1` and `n ≤ K.length` the index is inside the list; nothing
calls it otherwise (R56, U4, log 11). -/
def keyByte (K : List Byte) (n k : Nat) : Byte := K.getD (k % n) 0

/-- `KeyWord(K, n, i)` (R56): the four bytes at the running positions 4i .. 4i+3, wrapping at `n`. -/
def keyWord (K : List Byte) (n i : Nat) : Word :=
  be32 (keyByte K n (4 * i + 0)) (keyByte K n (4 * i + 1)) (keyByte K n (4 * i + 2)) (keyByte K n (4 * i + 3))

/-- `pad8(n)`: the least multiple of 8 that is at least `n`, on unbounded integers (R7). -/
def pad8 (n : Nat) : Nat := 8 * ((n + 7) / 8)

/-- `Pad(M, n)` with `n` the length of `M` (R91): zero bytes up to the length `pad8(n)`. -/
def pad (M : List Byte) : List Byte := M ++ List.replicate (pad8 M.length - M.length) 0

/-- `StripLen(B, n)` (R92): start with `m = n` and, while `m > 0` and `B[m-1] = 0`, decrease `m` by 1. -/
def stripLen (B : List Byte) : Nat → Nat
  | 0 => 0
  | m + 1 => if B.getD m 0 = 0 then stripLen B m else m + 1

/-- Cut a byte sequence into consecutive 8-byte blocks, transform each as a pair of words, and concatenate the
results in order (R95, R96; no chaining, R97). A tail shorter than 8 bytes is no block; the commands give none. -/
def mapBlocks (f : Word → Word → Word × Word) : List Byte → List Byte
  | c0 :: c1 :: c2 :: c3 :: c4 :: c5 :: c6 :: c7 :: rest =>
    serialise (f (parse c0 c1 c2 c3 c4 c5 c6 c7).1 (parse c0 c1 c2 c3 c4 c5 c6 c7).2) ++ mapBlocks f rest
  | _ => []

end Sys2Proof.Machine
end

