-- ==== Sys2Proof/Machine/Ops.lean ====
section
/-! DEFINITION. The named operations over the engine's registers and buffers: register access (10_state.md R17 to
R22), buffer access (20_memory.md R30, R39), the end of a command with and without error (60_exceptions.md R113,
R114), reset (70_reset_and_hazards.md R130). -/

namespace Sys2Proof.Machine

/-- What a command or a step answers. -/
abbrev Result := Host.Outcome State Fault Refusal

/-- Error entry (R113), the one way a command ends in an error: every state element stays, except `STATUS.ERR`.
Nothing is saved, no mode changes, and no control is transferred. -/
def raiseError (c : ErrCode) (s : State) : State := { s with ERR := c }

/-- `raise E` of the pseudocode (R8): the command stops with the error `c`. -/
def raise (c : ErrCode) (s : State) : Result := .next (raiseError c s)

/-- `STATUS.ERR <- 0`. -/
def clearError (s : State) : State := { s with ERR := .ok }

/-- The end of a command without error: `STATUS.ERR <- 0`. There is no return from an error; the next command
overwrites the code, with this operation or with `raise` (R114). -/
def complete (s : State) : Result := .next (clearError s)

/-- `P <- Pv ; S <- Sv` and `STATUS.KEYED <- 1` (R70). -/
def installTables (Pv : PArray) (Sv : SBoxes) (s : State) : State := { s with P := Pv, S := Sv, KEYED := true }

/-- `KEYBUF[0..71] <- 0 ; KEYLEN <- 0` (R74). -/
def eraseKey (s : State) : State := { s with KEYBUF := Vector.replicate 72 0, KEYLEN := 0 }

/-- `DL <- L ; DR <- R` (R88, R89). -/
def setBlock (lr : Word × Word) (s : State) : State := { s with DL := lr.1, DR := lr.2 }

/-- `OBUF[0 ..] <- out` and `OLEN <- len` (R95, R96). Bytes of `OBUF` past `out` keep their values (R99). -/
def writeOutput (out : List Byte) (len : Nat) (s : State) : State :=
  { s with OBUF := Memory.writeBytes s.OBUF 0 out, OLEN := BitVec.ofNat 32 len }

/-- The key (R15): `KEYBUF[0], …, KEYBUF[KEYLEN-1]`. -/
def keyBytes (s : State) : List Byte := s.KEYBUF.toList.take s.KEYLEN.val

/-- The byte `IBUF[off]`: the byte written last, or, where none was written since reset, the free byte of that
offset, the same at every read (R39, U3, log 3). -/
def ibufByte (s : State) (off : Nat) : Byte :=
  (Memory.lookup s.IBUF off).getD (Config.unspecifiedIbuf s.resets off)

/-- The byte `OBUF[off]`, as `ibufByte`. -/
def obufByte (s : State) (off : Nat) : Byte :=
  (Memory.lookup s.OBUF off).getD (Config.unspecifiedObuf s.resets off)

/-- `IBUF[0..n-1]`. -/
def inputBytes (s : State) (n : Nat) : List Byte := (List.range n).map (ibufByte s)

/-- `OBUF[0..n-1]`. -/
def outputBytes (s : State) (n : Nat) : List Byte := (List.range n).map (obufByte s)

/-- A host write of one byte of `KEYBUF` (R15). -/
def storeKeybuf (i : Fin 72) (v : Byte) (s : State) : State := { s with KEYBUF := s.KEYBUF.set i v }

/-- A host write of one byte of `IBUF` (R30). -/
def storeIbuf (off : Nat) (v : Byte) (s : State) : State := { s with IBUF := Memory.write s.IBUF off v }

/-- `min(v, 72)`, all 32 bits of `v` compared as an unsigned number (R20). -/
def saturateKeylen (v : Word) : Fin 73 := ⟨min v.toNat 72, by omega⟩

/-- A host read of a register (R17): `CMD` reads 0 (R18), `STATUS` its fields (R19), `KEYLEN` zero-extended (R20). -/
def readReg (s : State) : Reg → Word
  | .CMD => 0
  | .STATUS => statusWord s.KEYED s.ERR
  | .KEYLEN => BitVec.ofNat 32 s.KEYLEN.val
  | .ILEN => s.ILEN
  | .OLEN => s.OLEN
  | .DL => s.DL
  | .DR => s.DR

/-- A host write of a register that stores a number or ignores it (R17, R20, R21). A write to `CMD` stores nothing;
it executes a command, which `performWrite` of HostPort.lean does. -/
def storeReg (r : Reg) (v : Word) (s : State) : State :=
  match r with
  | .CMD => s
  | .STATUS => s
  | .KEYLEN => { s with KEYLEN := saturateKeylen v }
  | .ILEN => { s with ILEN := v }
  | .OLEN => s
  | .DL => { s with DL := v }
  | .DR => { s with DR := v }

/-- Give the host a response (R35). -/
def respond (r : Response) (s : State) : State := { s with response := some r }

/-- The host's next event is taken off its list. -/
def takeEvent (rest : List HostEvent) (s : State) : State := { s with pending := rest }

/-- Reset (R130): every state element at its reset value (R24), the unspecified ones at fresh free values (log 4).
The parameter and what the host does next are no state of the engine and stay. -/
def resetEngine (s : State) : State where
  toEngine := Engine.reset (s.resets + 1)
  bufBytes := s.bufBytes
  resets := s.resets + 1
  pending := s.pending
  response := none

end Sys2Proof.Machine
end

