-- ==== Sys2Proof/Machine/RoundFunction.lean ====
section
/-! DEFINITION. The round function F (42_round_function.md R80). -/

namespace Sys2Proof.Machine

/-- `Sv[b][x]`, an S-box look-up; a byte always indexes one of the 256 entries (R80). -/
def sboxAt (Sv : SBoxes) (b : Fin 4) (x : Byte) : Word := (Sv[b])[x.toNat]'x.isLt

/-- `F(Sv, x)` (R80): add, exclusive or, add, in exactly this order and bracketing; carries out of bit 31 are
dropped (R81). -/
def F (Sv : SBoxes) (x : Word) : Word :=
  let h1 := sboxAt Sv 0 (byteA x) + sboxAt Sv 1 (byteB x)
  let h2 := h1 ^^^ sboxAt Sv 2 (byteC x)
  h2 + sboxAt Sv 3 (byteD x)

end Sys2Proof.Machine
end

