-- ==== Sys2Proof/Machine/BlockCipher.lean ====
section
/-! DEFINITION. The two block transforms (43_block_cipher.md R85, R86) and the commands ENCB and DECB (R88, R89). -/

namespace Sys2Proof.Machine

/-- One iteration of the loop of R85 and R86 with the P-array word `k`: `L <- L ^ k`, then `R <- R ^ F(Sv, L)` with
the new `L`, then the swap. -/
def feistelRound (Sv : SBoxes) (lr : Word × Word) (k : Word) : Word × Word :=
  let L := lr.1 ^^^ k
  let R := lr.2 ^^^ F Sv L
  (R, L)

/-- After the loop: the swap back, `R <- R ^ kR`, `L <- L ^ kL` (R85, R86). -/
def feistelFinish (kR kL : Word) (lr : Word × Word) : Word × Word :=
  let L := lr.2
  let R := lr.1
  (L ^^^ kL, R ^^^ kR)

/-- `EncBlock(Pv, Sv, L, R)` (R85): rounds with `Pv[0]`, …, `Pv[15]`, then `Pv[16]` into R and `Pv[17]` into L. -/
def encBlock (Pv : PArray) (Sv : SBoxes) (L R : Word) : Word × Word :=
  feistelFinish Pv[16] Pv[17]
    ((List.finRange 16).foldl (fun lr i => feistelRound Sv lr Pv[i.val]) (L, R))

/-- `DecBlock(Pv, Sv, L, R)` (R86): rounds with `Pv[17]`, …, `Pv[2]`, then `Pv[1]` into R and `Pv[0]` into L. -/
def decBlock (Pv : PArray) (Sv : SBoxes) (L R : Word) : Word × Word :=
  feistelFinish Pv[1] Pv[0]
    ((List.finRange 16).foldl (fun lr i => feistelRound Sv lr Pv[17 - i.val]) (L, R))

/-- `ENCB` (R88): encrypt the block in the block registers. -/
def execEncb (s : State) : Result :=
  if s.KEYED then complete (setBlock (encBlock s.P s.S s.DL s.DR) s) else raise .notKeyed s

/-- `DECB` (R89): decrypt the block in the block registers. -/
def execDecb (s : State) : Result :=
  if s.KEYED then complete (setBlock (decBlock s.P s.S s.DL s.DR) s) else raise .notKeyed s

end Sys2Proof.Machine
end

