-- ==== Sys2Proof/Machine/KeySchedule.lean ====
section
/-! DEFINITION. The key schedule (41_key_schedule.md R71, R72) and the command KEYINIT (R70). -/

namespace Sys2Proof.Machine

/-- The working tables and the running block of the key schedule (R71); temporaries of the command (R23). -/
structure Working where
  Pv : PArray
  Sv : SBoxes
  L : Word
  R : Word
deriving DecidableEq, Repr

/-- Steps 1 and 2 (R71): the constants, the key words mixed into the P-array, the running block (0, 0). -/
def scheduleStart (K : List Byte) (n : Nat) : Working where
  Pv := Vector.ofFn fun i => pInit[i] ^^^ keyWord K n i.val
  Sv := sInit
  L := 0
  R := 0

/-- Encrypt the running block with the tables as they are at this moment (R71, R72). -/
def nextBlock (w : Working) : Word × Word := encBlock w.Pv w.Sv w.L w.R

/-- One iteration of step 3, `i = 2k` (R71): the two stores come after the encryption (R72). -/
def stepP (w : Working) (k : Fin 9) : Working :=
  let lr := nextBlock w
  { Pv := (w.Pv.set (2 * k.val) lr.1).set (2 * k.val + 1) lr.2, Sv := w.Sv, L := lr.1, R := lr.2 }

/-- One iteration of step 4 in box `b`, `j = 2k` (R71). -/
def stepS (b : Fin 4) (w : Working) (k : Fin 128) : Working :=
  let lr := nextBlock w
  { Pv := w.Pv
    Sv := w.Sv.set b (((w.Sv[b]).set (2 * k.val) lr.1).set (2 * k.val + 1) lr.2)
    L := lr.1
    R := lr.2 }

/-- Step 3 (R71): 9 block encryptions. -/
def replaceP (w : Working) : Working := (List.finRange 9).foldl stepP w

/-- One S-box of step 4 (R71): 128 block encryptions. -/
def replaceBox (w : Working) (b : Fin 4) : Working := (List.finRange 128).foldl (stepS b) w

/-- Step 4 (R71): the four S-boxes in order. -/
def replaceS (w : Working) : Working := (List.finRange 4).foldl replaceBox w

/-- `Schedule(K, n)` (R71): the tables (Pv, Sv) of a key of `n ≥ 1` bytes, after 521 block encryptions (R72).
Irreducible only so that no proof's `rfl` runs into the 521 encryptions; `schedule_eq` of Laws/Schedule.lean unfolds
it. -/
@[irreducible] def schedule (K : List Byte) (n : Nat) : PArray × SBoxes :=
  let w := replaceS (replaceP (scheduleStart K n))
  (w.Pv, w.Sv)

/-- `KEYINIT` (R70): construct a cipher from the key in the key buffer. The empty key is refused before anything is
written (R73); on success the key is erased (R74). -/
def execKeyinit (s : State) : Result :=
  if s.KEYLEN = 0 then raise .invalidKey s
  else
    let t := schedule (keyBytes s) s.KEYLEN.val
    complete (eraseKey (installTables t.1 t.2 s))

end Sys2Proof.Machine
end

