-- ==== Sys2Proof/Machine/MessageCodec.lean ====
section
/-! DEFINITION. The message commands ENCM and DECM (44_message_codec.md R95, R96). -/

namespace Sys2Proof.Machine

/-- `ENCM` (R95): encrypt the message in the input buffer. -/
def execEncm (s : State) : Result :=
  let n := s.ILEN.toNat
  if s.KEYED = false then raise .notKeyed s
  else if s.bufBytes.bytes < pad8 n then raise .length s
  else complete (writeOutput (mapBlocks (encBlock s.P s.S) (pad (inputBytes s n))) (pad8 n) s)

/-- The `n` bytes that DECM decrypts (R96). -/
def decryptedBytes (s : State) (n : Nat) : List Byte := mapBlocks (decBlock s.P s.S) (inputBytes s n)

/-- `DECM` (R96): decrypt the message in the input buffer. All `n` bytes are written; `OLEN` leaves the trailing
zero bytes out (R92, R98). -/
def execDecm (s : State) : Result :=
  let n := s.ILEN.toNat
  if s.KEYED = false then raise .notKeyed s
  else if n % 8 ≠ 0 then raise .truncatedBlock s
  else if s.bufBytes.bytes < n then raise .length s
  else complete (writeOutput (decryptedBytes s n) (stripLen (decryptedBytes s n) n) s)

end Sys2Proof.Machine
end

