-- ==== Sys2Proof/Machine/HostPort.lean ====
section
/-! DEFINITION. The host port: decoding a flat address (20_memory.md R31), which transactions are legal (R34), what
each does and answers (R35 to R39), and how a script line's transaction is written (30_encoding.md R58). -/

namespace Sys2Proof.Machine

/-- What a flat address reaches (R31). The four ranges do not overlap, since `BUF_BYTES` ≤ 0x100000. -/
def targetOf (b : BufBytes) (addr : FlatAddr) : Target :=
  let a := addr.toNat
  if a ≤ 0x00001F then .reg a
  else if h : 0x000100 ≤ a ∧ a ≤ 0x000147 then .keybuf ⟨a - 0x000100, by omega⟩
  else if 0x100000 ≤ a ∧ a < 0x100000 + b.bytes then .ibuf (a - 0x100000)
  else if 0x200000 ≤ a ∧ a < 0x200000 + b.bytes then .obuf (a - 0x200000)
  else .unmapped

/-- The register at a byte offset of `REG` (R17). Offset 0x1C holds none, and an offset that is not a multiple of 4
is misaligned (R34). -/
def regAt (off : Nat) : Option Reg :=
  match off with
  | 0x00 => some .CMD
  | 0x04 => some .STATUS
  | 0x08 => some .KEYLEN
  | 0x0C => some .ILEN
  | 0x10 => some .OLEN
  | 0x14 => some .DL
  | 0x18 => some .DR
  | _ => none

/-- The legal combinations of R34: `REG` by 32 bits, the byte spaces by 8 bits. `none`: illegal. -/
def portOpAt (target : Target) (access : Access) : Option PortOp :=
  match target with
  | .reg off =>
    match access with
    | .read32 => (regAt off).map .readReg
    | .write32 v => (regAt off).map (.writeReg · v)
    | _ => none
  | .keybuf i =>
    match access with
    | .read8 => some (.readKeybuf i)
    | .write8 v => some (.writeKeybuf i v)
    | _ => none
  | .ibuf off =>
    match access with
    | .read8 => some (.readIbuf off)
    | .write8 v => some (.writeIbuf off v)
    | _ => none
  | .obuf off =>
    match access with
    | .read8 => some (.readObuf off)
    | .write8 v => some (.writeObuf off v)
    | _ => none
  | .unmapped => none

/-- What a transaction does, if it is legal (R34). -/
def portOp (b : BufBytes) (t : Transaction) : Option PortOp := portOpAt (targetOf b t.addr) t.access

/-- A write of the word `w` to `CMD` (R18): the command that `w` encodes runs from start to finish; a word that
encodes none raises ILLEGAL_CMD (R52). -/
def command (w : Word) (s : State) : Result :=
  match decode w with
  | .ok i => exec i s
  | .error _ => raise .illegalCmd s

/-- A 32-bit write of a register (R17, R18). -/
def performWrite (r : Reg) (v : Word) (s : State) : Result :=
  match r with
  | .CMD => command v s
  | _ => .next (storeReg r v s)

/-- Give the response once the transaction has done its work. -/
def answer (r : Response) : Result → Result
  | .next s => .next (respond r s)
  | .fault f => .fault f
  | .refused f => .refused f

/-- A legal transaction (R30, R35 to R39). A read changes nothing (R37); `KEYBUF` reads 0 (R15); a write of `OBUF`
is ignored (R16). -/
def performOp (op : PortOp) (s : State) : Result :=
  match op with
  | .readReg r => .next (respond (.okay32 (readReg s r)) s)
  | .writeReg r v => answer .okay (performWrite r v s)
  | .readKeybuf _ => .next (respond (.okay8 0) s)
  | .writeKeybuf i v => .next (respond .okay (storeKeybuf i v s))
  | .readIbuf off => .next (respond (.okay8 (ibufByte s off)) s)
  | .writeIbuf off v => .next (respond .okay (storeIbuf off v s))
  | .readObuf off => .next (respond (.okay8 (obufByte s off)) s)
  | .writeObuf _ _ => .next (respond .okay s)

/-- A transaction (R35): an illegal one gets ERROR and changes no state. -/
def performTransaction (t : Transaction) (s : State) : Result :=
  match portOp s.bufBytes t with
  | some op => performOp op s
  | none => .next (respond .error s)

/-- One event of the outside world (R6, R131). -/
def performEvent (e : HostEvent) (s : State) : Result :=
  match e with
  | .transaction t => performTransaction t s
  | .reset => .next (resetEngine s)

/-- The offset of a register in `REG` (R17). -/
def regOffset : Reg → Nat
  | .CMD => 0x00
  | .STATUS => 0x04
  | .KEYLEN => 0x08
  | .ILEN => 0x0C
  | .OLEN => 0x10
  | .DL => 0x14
  | .DR => 0x18

/-- The flat address of a register (R31). -/
def regAddr (r : Reg) : FlatAddr := BitVec.ofNat 22 (regOffset r)

/-- The first flat address of a byte space (R31). -/
def spaceBase : ByteSpace → Nat
  | .KEYBUF => 0x000100
  | .IBUF => 0x100000
  | .OBUF => 0x200000

/-- The flat address of an offset of a byte space (R31). -/
def spaceAddr (sp : ByteSpace) (off : Nat) : FlatAddr := BitVec.ofNat 22 (spaceBase sp + off)

/-- The transaction that a legal operation is written as (R58): width and flat address from R31 and R34. -/
def encodeOp : PortOp → Transaction
  | .readReg r => ⟨regAddr r, .read32⟩
  | .writeReg r v => ⟨regAddr r, .write32 v⟩
  | .readKeybuf i => ⟨spaceAddr .KEYBUF i.val, .read8⟩
  | .writeKeybuf i v => ⟨spaceAddr .KEYBUF i.val, .write8 v⟩
  | .readIbuf off => ⟨spaceAddr .IBUF off, .read8⟩
  | .writeIbuf off v => ⟨spaceAddr .IBUF off, .write8 v⟩
  | .readObuf off => ⟨spaceAddr .OBUF off, .read8⟩
  | .writeObuf off v => ⟨spaceAddr .OBUF off, .write8 v⟩

/-- The operation names a byte that exists: an offset of a message buffer is below `BUF_BYTES` (R30). -/
def PortOp.inRange (b : BufBytes) : PortOp → Bool
  | .readReg _ => true
  | .writeReg _ _ => true
  | .readKeybuf _ => true
  | .writeKeybuf _ _ => true
  | .readIbuf off => off < b.bytes
  | .writeIbuf off _ => off < b.bytes
  | .readObuf off => off < b.bytes
  | .writeObuf off _ => off < b.bytes

/-- The host event that writes the word `w` to `CMD` (`WR CMD, w`, R58). -/
def writeCmd (w : Word) : HostEvent := .transaction ⟨regAddr .CMD, .write32 w⟩

end Sys2Proof.Machine
end

