-- ==== Sys2Proof/Machine/Step.lean ====
section
/-! DEFINITION. One step of the machine (00_scope.md R6): the engine performs the next thing the host does. -/

namespace Sys2Proof.Machine

/-- One step: the next event of the host, whole (R36, R40, R131). With no event to come the engine is idle and keeps
all its state (R118). -/
def step (s : State) : Host.Outcome State Fault Refusal :=
  match s.pending with
  | [] => .next s
  | e :: rest => performEvent e (takeEvent rest s)

/-- `s` with the command word `w` as the host's very next write to `CMD`: the engine fetches no instructions (R13),
and this is how a command reaches it (R18). Nothing else changes (log 6). -/
def State.withFetchWord (s : State) (nbits w : Nat) : State :=
  { s with pending := writeCmd (tableWord nbits w) :: s.pending }

end Sys2Proof.Machine
end

