-- ==== Sys2Proof/Safety.lean ====
section
/-! DEFINITION. What claims about the machine are stated in: the invariant every step keeps, when two states differ
only in something the host cannot see, and the spec's own words for messages, blocks and legal transactions, written
without the machine's functions. -/

namespace Sys2Proof.Machine

/-- The invariant of the machine. The two buffers list offsets inside `BUF_BYTES` (R30), strictly rising (the model's own
canonical form, log 3); `OLEN` is at most
`BUF_BYTES` (R22); and every byte of the output message `OBUF[0..OLEN-1]` has been written by the engine (R16, R22,
R95, R96), so that the host never reads an unspecified byte of a message (R39). -/
structure State.Inv (s : State) : Prop where
  ibuf_wf : Memory.wf s.bufBytes.bytes s.IBUF
  obuf_wf : Memory.wf s.bufBytes.bytes s.OBUF
  olen_le : s.OLEN.toNat ≤ s.bufBytes.bytes
  output_written : ∀ k, k < s.OLEN.toNat → (Memory.lookup s.OBUF k).isSome = true

/-- Every byte of the input message `IBUF[0..ILEN-1]` has been written by the host, as R132 asks (step 4). -/
def InputWritten (s : State) : Prop := ∀ k, k < s.ILEN.toNat → (Memory.lookup s.IBUF k).isSome = true

/-- The two states differ at most in the tables `P`, `S`. -/
def SameButTables (s t : State) : Prop := t = { s with P := t.P, S := t.S }

/-- The two states differ at most in the bytes of `KEYBUF`. -/
def SameButKeybuf (s t : State) : Prop := t = { s with KEYBUF := t.KEYBUF }

/-- Byte `k` of the padded message `Pad(IBUF[0..ILEN-1], ILEN)` (R91). -/
def paddedByte (s : State) (k : Nat) : Byte := if k < s.ILEN.toNat then ibufByte s k else 0

/-- Block number `k` of a byte sequence, as the pair (L, R) (R55: byte `t` of the block at `8k + t`). -/
def blockAt (byte : Nat → Byte) (k : Nat) : Word × Word :=
  (be32 (byte (8 * k)) (byte (8 * k + 1)) (byte (8 * k + 2)) (byte (8 * k + 3)),
   be32 (byte (8 * k + 4)) (byte (8 * k + 5)) (byte (8 * k + 6)) (byte (8 * k + 7)))

/-- What the host's copy of the output to the input leaves (R99): `OBUF[0..OLEN-1]` in `IBUF[0..OLEN-1]`, `OLEN` in
`ILEN`. -/
def copyOutputBack (s : State) : State :=
  { s with IBUF := Memory.writeBytes s.IBUF 0 (outputBytes s s.OLEN.toNat), ILEN := s.OLEN }

/-- The pair (l(i), r(i)) of the form of R85 without swaps. -/
def swapFree (Pv : PArray) (Sv : SBoxes) (L R : Word) : Nat → Word × Word
  | 0 => (L, R)
  | i + 1 =>
    let l := (swapFree Pv Sv L R i).1
    let r := (swapFree Pv Sv L R i).2
    let p := Pv.toList.getD i 0
    (r ^^^ F Sv (l ^^^ p), l ^^^ p)

/-- A legal transaction, in the words of R17, R31 and R34: 32 bits wide at a multiple of 4 that holds a register, or
8 bits wide at an address of `KEYBUF`, `IBUF` or `OBUF`. -/
def LegalTransaction (b : BufBytes) (t : Transaction) : Prop :=
  let a := t.addr.toNat
  let word := a % 4 = 0 ∧ a ≤ 0x18
  let byte := (0x100 ≤ a ∧ a ≤ 0x147) ∨ (0x100000 ≤ a ∧ a < 0x100000 + b.bytes) ∨
    (0x200000 ≤ a ∧ a < 0x200000 + b.bytes)
  match t.access with
  | .read32 => word
  | .write32 _ => word
  | .read8 => byte
  | .write8 _ => byte
  | .readOther _ => False
  | .writeOther _ => False

/-- The result code that a `CMD` write of the word `w` gives, by the priority of R115: ILLEGAL_CMD; for KEYINIT
INVALID_KEY; for the others NOT_KEYED, then for DECM TRUNCATED_BLOCK, then for ENCM and DECM LENGTH; else OK. -/
def resultCode (w : Word) (s : State) : ErrCode :=
  let n := s.ILEN.toNat
  if w = 1 then (if s.KEYLEN = 0 then .invalidKey else .ok)
  else if w = 2 ∨ w = 3 then (if s.KEYED = false then .notKeyed else .ok)
  else if w = 4 then
    (if s.KEYED = false then .notKeyed else if 8 * ((n + 7) / 8) > s.bufBytes.bytes then .length else .ok)
  else if w = 5 then
    (if s.KEYED = false then .notKeyed else if n % 8 ≠ 0 then .truncatedBlock
      else if n > s.bufBytes.bytes then .length else .ok)
  else .illegalCmd

end Sys2Proof.Machine
end

