-- ==== Sys2Proof/Certificates/Slice0/Obligations.lean ====
section
/-! DEFINITION. What is to be proved of the model. Each docstring names the rule of spec/ that the statement
formalises, and the log entry where a clause is the model's own. That the host's events and the latest response are
held in State, as `pending` and `response`, is the model's choice (log 5) in every statement that names them. -/

open Sys2Proof Sys2Proof.Machine

/-! ### Encoding -/

/-- R51: a word selects a command exactly when `RSV` (bits 31:8) is 0 and `OP` (bits 7:0) is 1 to 5, that is, when the
whole word is the opcode of the command (R50). -/
def Obligations.CommandWordSelectsExactlyItsCommand : Prop :=
  ∀ w : Word,
    ((∃ i, decode w = .ok i) ↔
      w.extractLsb' 8 24 = 0 ∧ 1 ≤ (w.extractLsb' 0 8).toNat ∧ (w.extractLsb' 0 8).toNat ≤ 5) ∧
    (decode w = .ok .keyinit ↔ w = 0x00000001#32) ∧
    (decode w = .ok .encb ↔ w = 0x00000002#32) ∧
    (decode w = .ok .decb ↔ w = 0x00000003#32) ∧
    (decode w = .ok .encm ↔ w = 0x00000004#32) ∧
    (decode w = .ok .decm ↔ w = 0x00000005#32) ∧
    (∀ i, decode w = .ok i ↔ w = encode i)

/-- R50, R52: the five words of the opcode table, and words beside them. -/
def Obligations.WrittenOutWordsDecode : Prop :=
  decode 0x00000001#32 = .ok .keyinit ∧ decode 0x00000002#32 = .ok .encb ∧ decode 0x00000003#32 = .ok .decb ∧
  decode 0x00000004#32 = .ok .encm ∧ decode 0x00000005#32 = .ok .decm ∧
  decode 0x00000000#32 = .error (.noSuchOpcode 0) ∧ decode 0x00000006#32 = .error (.noSuchOpcode 6) ∧
  decode 0x000000FF#32 = .error (.noSuchOpcode 0xFF) ∧ decode 0x00000102#32 = .error (.reservedBits 1) ∧
  decode 0xFFFFFFFF#32 = .error (.reservedBits 0xFFFFFF)

/-- R31, R34, R58: a transaction decodes to a legal operation exactly when the operation names a place that exists and
the transaction is the one it is written as. No bit of an address, a width or the data is lost. -/
def Obligations.PortTransactionsRoundTrip : Prop :=
  ∀ (b : BufBytes) (t : Transaction) (op : PortOp),
    portOp b t = some op ↔ (op.inRange b = true ∧ t = encodeOp op)

/-- R31: the four ranges of the flat window, and nothing else mapped. -/
def Obligations.FlatMapRanges : Prop :=
  ∀ (b : BufBytes) (A : FlatAddr),
    (∀ off, targetOf b A = .reg off ↔ A.toNat ≤ 0x00001F ∧ off = A.toNat) ∧
    (∀ i : Fin 72, targetOf b A = .keybuf i ↔ A.toNat = 0x000100 + i.val) ∧
    (∀ off, targetOf b A = .ibuf off ↔ off < b.bytes ∧ A.toNat = 0x100000 + off) ∧
    (∀ off, targetOf b A = .obuf off ↔ off < b.bytes ∧ A.toNat = 0x200000 + off) ∧
    (targetOf b A = .unmapped ↔
      0x00001F < A.toNat ∧ ¬(0x000100 ≤ A.toNat ∧ A.toNat ≤ 0x000147) ∧
      ¬(0x100000 ≤ A.toNat ∧ A.toNat ≤ 0x100000 + b.bytes - 1) ∧
      ¬(0x200000 ≤ A.toNat ∧ A.toNat ≤ 0x200000 + b.bytes - 1))

/-! ### The step -/

/-- R18, R35: a step whose next event writes a word to `CMD` that decodes to a command runs exactly that command, on
the state with the event taken, and then gives the response OKAY. -/
def Obligations.StepRunsDecodedCommand : Prop :=
  ∀ (s : State) (w : Word) (rest : List HostEvent) (i : Instr),
    s.pending = .transaction ⟨0x000000#22, .write32 w⟩ :: rest → decode w = .ok i →
    step s = (match exec i { s with pending := rest } with
      | .next t => .next { t with response := some .okay }
      | .fault f => .fault f
      | .refused r => .refused r)

/-- The next step of `withFetchWord` runs the instruction of the table word (log 6: the model's own entry point). -/
def Obligations.FetchedWordRuns : Prop :=
  ∀ (s : State) (nbits w : Nat) (i : Instr), decodeTableWord nbits w = some i →
    step (s.withFetchWord nbits w) = (match exec i s with
      | .next t => .next { t with response := some .okay }
      | .fault f => .fault f
      | .refused r => .refused r)

/-- Whatever the state and whatever the host does next, the step completes. This is the model's reading (log 13,
DEDUCED) of R35 (an illegal transaction gets ERROR), R36 and R140 (a transaction is atomic, a command finite) and R113
(an error is a next state). It rests on log 3 too: U3 would also let a read of an unwritten buffer byte stop the
model, and here such a byte is a free value; and on log 5: a step with no event is idle. -/
def Obligations.EveryStepCompletes : Prop := ∀ s : State, ∃ t : State, step s = .next t

/-- R40: each step takes the oldest event off the list and performs it: the next state is what the event makes of the
state without it. With no event the engine keeps all its state (R118), and no event changes the parameter `BUF_BYTES`
(R5). The model's own: that the parameter stands in State (log 1), the counter of resets, which a reset and nothing
else raises by one (log 4), and the list (log 5). -/
def Obligations.StepTakesOneEventInOrder : Prop :=
  ∀ s t : State, step s = .next t →
    t.pending = s.pending.tail ∧ t.bufBytes = s.bufBytes ∧ (s.pending = [] → t = s) ∧
    (∀ e rest, s.pending = e :: rest → performEvent e { s with pending := rest } = .next t) ∧
    t.resets = s.resets + (if s.pending.head? = some .reset then 1 else 0)

/-! ### Registers and buffers -/

/-- R17: the register space. Reads, writes, the offset 0x1C that holds no register, and what the registers read after
reset. -/
def Obligations.RegisterSpace : Prop :=
  (∀ (s : State) (rest : List HostEvent),
    let u : State := { s with pending := rest }
    let read (off : Nat) : Prop := s.pending = .transaction ⟨BitVec.ofNat 22 off, .read32⟩ :: rest
    let gives (w : Word) : Prop := step s = .next { u with response := some (.okay32 w) }
    (read 0x00 → gives 0) ∧
    (read 0x04 → gives (statusWord s.KEYED s.ERR)) ∧
    (read 0x08 → gives (BitVec.ofNat 32 s.KEYLEN.val)) ∧
    (read 0x0C → gives s.ILEN) ∧
    (read 0x10 → gives s.OLEN) ∧
    (read 0x14 → gives s.DL) ∧
    (read 0x18 → gives s.DR) ∧
    (read 0x1C → step s = .next { u with response := some .error })) ∧
  (∀ (s : State) (rest : List HostEvent) (v : Word),
    let u : State := { s with pending := rest, response := some .okay }
    let write (off : Nat) : Prop := s.pending = .transaction ⟨BitVec.ofNat 22 off, .write32 v⟩ :: rest
    (write 0x00 → step s = (match command v { s with pending := rest } with
      | .next t => .next { t with response := some .okay }
      | .fault f => .fault f
      | .refused r => .refused r)) ∧
    (write 0x04 → step s = .next u) ∧
    (write 0x08 → step s = .next { u with KEYLEN := ⟨min v.toNat 72, by omega⟩ }) ∧
    (write 0x0C → step s = .next { u with ILEN := v }) ∧
    (write 0x10 → step s = .next u) ∧
    (write 0x14 → step s = .next { u with DL := v }) ∧
    (write 0x18 → step s = .next { u with DR := v }) ∧
    (write 0x1C → step s = .next { u with response := some .error })) ∧
  (∀ r : Reg, readReg State.reset r = 0)

/-- R19: the fields of `STATUS` and the six result codes. -/
def Obligations.StatusFields : Prop :=
  (∀ s : State,
    let w := readReg s .STATUS
    w.getLsbD 0 = s.KEYED ∧ w.extractLsb' 1 3 = 0 ∧ w.extractLsb' 4 4 = errBits s.ERR ∧ w.extractLsb' 8 24 = 0 ∧
    w.toNat = (if s.KEYED then 1 else 0) + 16 * (errBits s.ERR).toNat) ∧
  (errBits .ok).toNat = 0 ∧ (errBits .invalidKey).toNat = 1 ∧ (errBits .truncatedBlock).toNat = 2 ∧
  (errBits .notKeyed).toNat = 3 ∧ (errBits .illegalCmd).toNat = 4 ∧ (errBits .length).toNat = 5

/-- R20: a write to `KEYLEN` stores `min(v, 72)` and changes nothing else, and a read gives the stored value back,
zero-extended. -/
def Obligations.KeylenSaturates : Prop :=
  ∀ (s : State) (v : Word) (rest : List HostEvent),
    s.pending = .transaction ⟨0x000008#22, .write32 v⟩ :: .transaction ⟨0x000008#22, .read32⟩ :: rest →
    ∃ t u : State, step s = .next t ∧
      t = { s with KEYLEN := t.KEYLEN, pending := .transaction ⟨0x000008#22, .read32⟩ :: rest,
                   response := some .okay } ∧
      (v.toNat ≤ 72 → t.KEYLEN.val = v.toNat) ∧ (72 < v.toNat → t.KEYLEN.val = 72) ∧
      step t = .next u ∧ u.KEYLEN = t.KEYLEN ∧
      ∃ r : Word, u.response = some (.okay32 r) ∧ r.toNat = t.KEYLEN.val

/-- R30, R15, R16: the three byte spaces. A `KEYBUF` byte is stored and reads 0, an `IBUF` byte is stored and read
back, an `OBUF` byte is read and never stored. Every other byte and every other element stays. -/
def Obligations.ByteSpaces : Prop :=
  ∀ (s : State) (rest : List HostEvent) (a : Access),
    let u : State := { s with pending := rest, response := some .okay }
    let at' (A : Nat) : Prop := s.pending = .transaction ⟨BitVec.ofNat 22 A, a⟩ :: rest
    (∀ i : Fin 72, at' (0x000100 + i.val) →
      (a = .read8 → step s = .next { u with response := some (.okay8 0) }) ∧
      (∀ v, a = .write8 v → step s = .next { u with KEYBUF := s.KEYBUF.set i v })) ∧
    (∀ off, off < s.bufBytes.bytes → at' (0x100000 + off) →
      (a = .read8 → step s = .next { u with response := some (.okay8 (ibufByte s off)) }) ∧
      (∀ v, a = .write8 v → ∃ t, step s = .next t ∧ t = { u with IBUF := t.IBUF } ∧
        ibufByte t off = v ∧ ∀ k, k ≠ off → ibufByte t k = ibufByte s k)) ∧
    (∀ off, off < s.bufBytes.bytes → at' (0x200000 + off) →
      (a = .read8 → step s = .next { u with response := some (.okay8 (obufByte s off)) }) ∧
      (∀ v, a = .write8 v → step s = .next u))

/-- R35: every legal transaction (R34) gets OKAY, a `CMD` write whose command fails included; an illegal one gets
ERROR, carries no data, and changes no state. -/
def Obligations.LegalGetsOkayIllegalGetsError : Prop :=
  ∀ (s : State) (t : Transaction) (rest : List HostEvent), s.pending = .transaction t :: rest →
    (LegalTransaction s.bufBytes t → ∃ u, step s = .next u ∧
      (u.response = some .okay ∨ (∃ v, u.response = some (.okay8 v)) ∨ ∃ v, u.response = some (.okay32 v))) ∧
    (¬LegalTransaction s.bufBytes t → step s = .next { s with pending := rest, response := some .error })

/-- R37: a read, of whatever width and at whatever address, changes nothing; only the response is new. So an unwritten
buffer byte reads the same until something writes it (R39 and U3, in the treatment that log 3 takes). -/
def Obligations.ReadsHaveNoSideEffect : Prop :=
  ∀ (s : State) (t : Transaction) (rest : List HostEvent),
    s.pending = .transaction t :: rest → t.access.isRead = true →
    ∃ r : Response, step s = .next { s with pending := rest, response := some r }

/-! ### Errors -/

/-- R52: every command word that is not 1 to 5 executes no operation, changes no state except `STATUS.ERR <- 4`, and
the write completes with OKAY. -/
def Obligations.ReservedWordRaisesIllegalCmd : Prop :=
  ∀ (s : State) (w : Word) (rest : List HostEvent), s.pending = writeCmd w :: rest → (w.toNat = 0 ∨ 6 ≤ w.toNat) →
    step s = .next { s with pending := rest, ERR := .illegalCmd, response := some .okay }

/-- R115: exactly one code is reported for a `CMD` write, the first in the order of the rule. -/
def Obligations.ErrorPriority : Prop :=
  ∀ (s : State) (w : Word) (rest : List HostEvent), s.pending = writeCmd w :: rest →
    ∃ t, step s = .next t ∧ t.ERR = resultCode w s ∧ t.response = some .okay

/-- R113: a command that ends in an error leaves every state element as it was, except `STATUS.ERR`, and its write gets
OKAY. -/
def Obligations.ErrorChangesOnlyErr : Prop :=
  (∀ (i : Instr) (s t : State), exec i s = .next t → t.ERR ≠ .ok → t = { s with ERR := t.ERR }) ∧
  (∀ (s t : State) (w : Word) (rest : List HostEvent), s.pending = writeCmd w :: rest → step s = .next t →
    t.ERR ≠ .ok → t = { s with pending := rest, ERR := t.ERR, response := some .okay })

/-- R114: an error does not lock the engine; what a command does does not depend on the code that `STATUS.ERR` holds,
and the command overwrites it. -/
def Obligations.ErrorIsNotSticky : Prop :=
  ∀ (i : Instr) (s : State) (c : ErrCode), exec i { s with ERR := c } = exec i s

/-- R19: no host transaction other than a `CMD` write changes `KEYED` or `ERR`, and `KEYED` goes from 1 to 0 by reset
only (R130). -/
def Obligations.StatusChangesOnlyByCommandOrReset : Prop :=
  ∀ s t : State, step s = .next t →
    ((t.KEYED ≠ s.KEYED ∨ t.ERR ≠ s.ERR) →
      ∃ rest, s.pending = .reset :: rest ∨ ∃ w, s.pending = .transaction ⟨0x000000#22, .write32 w⟩ :: rest) ∧
    (s.KEYED = true → t.KEYED = false → ∃ rest, s.pending = .reset :: rest)

/-! ### The constants -/

/-- R69: the exclusive or of all words and the sum of all words mod 2^32 of the five constant tables. -/
def Obligations.ConstantTableCheckSums : Prop :=
  let xorSum (ws : List Word) : Word × Word := (ws.foldl (· ^^^ ·) 0, ws.foldl (· + ·) 0)
  xorSum pInit.toList = (0xB73AD7EA#32, 0x8E4D14CC#32) ∧
  xorSum sInit[0].toList = (0x4EB4DB7F#32, 0x4B745115#32) ∧
  xorSum sInit[1].toList = (0xC727E122#32, 0x72FF37B2#32) ∧
  xorSum sInit[2].toList = (0x462A5D01#32, 0x2AC02B91#32) ∧
  xorSum sInit[3].toList = (0x1779E2BC#32, 0xF43E3A88#32)

/-! ### The key schedule -/

/-- R70: KEYINIT (word 1) with a key completes: the tables are the schedule of the key, the engine is keyed, the key
is erased, and everything else stays; with the empty key only `ERR` changes. -/
def Obligations.KeyinitBuildsCipher : Prop :=
  decode 0x00000001#32 = .ok .keyinit ∧ ∀ s : State,
    keyBytes s = s.KEYBUF.toList.take s.KEYLEN.val ∧
    (s.KEYLEN ≠ 0 → exec .keyinit s = .next { s with
      P := (schedule (keyBytes s) s.KEYLEN.val).1, S := (schedule (keyBytes s) s.KEYLEN.val).2, KEYED := true,
      KEYBUF := Vector.replicate 72 0, KEYLEN := 0, ERR := .ok }) ∧
    (s.KEYLEN = 0 → exec .keyinit s = .next { s with ERR := .invalidKey })

/-- R73: a write of KEYINIT with the empty key raises InvalidKeyError, read as code 1 in `STATUS`, and `P`, `S`,
`KEYED`, `KEYBUF`, `KEYLEN` and every other element keep their values: an engine keyed before is still keyed. -/
def Obligations.EmptyKeyRefused : Prop :=
  ∀ (s : State) (rest : List HostEvent),
    s.pending = .transaction ⟨0x000000#22, .write32 0x00000001#32⟩ :: rest → s.KEYLEN = 0 →
    ∃ t, step s = .next t ∧ t = { s with ERR := t.ERR, pending := rest, response := some .okay } ∧
      (readReg t .STATUS).extractLsb' 4 4 = 1 ∧ (readReg t .STATUS).getLsbD 0 = s.KEYED

/-- R74: a KEYINIT that completes without error leaves no key, so that a second KEYINIT without a new key raises
InvalidKeyError, the new tables in force; a KEYINIT that raises its error leaves the key as it was. -/
def Obligations.SecondKeyinitNeedsAKey : Prop :=
  ∀ s t : State, exec .keyinit s = .next t →
    (t.ERR = .ok → (∀ i : Fin 72, t.KEYBUF[i] = 0) ∧ t.KEYLEN = 0 ∧ t.KEYED = true ∧
      exec .keyinit t = .next { t with ERR := .invalidKey }) ∧
    (t.ERR ≠ .ok → t.KEYBUF = s.KEYBUF ∧ t.KEYLEN = s.KEYLEN)

/-- R75: KEYINIT ignores the old `P`, `S` and `KEYED` entirely. -/
def Obligations.RekeyingIgnoresOldTables : Prop :=
  ∀ (s : State) (P' : PArray) (S' : SBoxes) (k : Bool), s.KEYLEN ≠ 0 →
    exec .keyinit { s with P := P', S := S', KEYED := k } = exec .keyinit s

/-- R56: each key word takes four bytes at the running positions 4i to 4i+3, cyclically, the first of them into bits
31:24. -/
def Obligations.KeyWordCyclicBigEndian : Prop :=
  ∀ (K : List Byte) (i : Nat) (h : 1 ≤ K.length),
    let at' (m : Nat) : Byte := K[(4 * i + m) % K.length]'(Nat.mod_lt _ h)
    (keyWord K K.length i).toNat = 2 ^ 24 * (at' 0).toNat + 2 ^ 16 * (at' 1).toNat + 2 ^ 8 * (at' 2).toNat +
      (at' 3).toNat

/-- R71, R72: `Schedule(K, n)` is the chain of 521 block encryptions from the block (0, 0). Each is done with the table
words already replaced as they end up, and the others as they were (the key-mixed P-array, the constant S-boxes); its
result is stored in the two next words. -/
def Obligations.ScheduleIsTheEncryptionChain : Prop :=
  ∀ (K : List Byte) (n : Nat), 1 ≤ n →
    let P := (schedule K n).1
    let S := (schedule K n).2
    ∃ r : Nat → Word × Word, r 0 = (0, 0) ∧
      (∀ k : Fin 9,
        r (k.val + 1) = encBlock
          (Vector.ofFn fun j => if j.val < 2 * k.val then P[j] else pInit[j] ^^^ keyWord K n j.val)
          sInit (r k.val).1 (r k.val).2 ∧
        P[2 * k.val] = (r (k.val + 1)).1 ∧ P[2 * k.val + 1] = (r (k.val + 1)).2) ∧
      (∀ (b : Fin 4) (k : Fin 128),
        let e := 9 + 128 * b.val + k.val
        r (e + 1) = encBlock P
          (Vector.ofFn fun c => Vector.ofFn fun j =>
            if c.val < b.val ∨ (c = b ∧ j.val < 2 * k.val) then (S[c])[j] else (sInit[c])[j])
          (r e).1 (r e).2 ∧
        (S[b])[2 * k.val] = (r (e + 1)).1 ∧ (S[b])[2 * k.val + 1] = (r (e + 1)).2)

/-- R76 (c): a key that is another key repeated a whole number of times gives the same CipherState. -/
def Obligations.PeriodicKeySameSchedule : Prop :=
  ∀ (K K' : List Byte) (m : Nat), 1 ≤ K.length → 1 ≤ m → K'.length = m * K.length →
    (∀ k, k < K'.length → K'.getD k 0 = K.getD (k % K.length) 0) →
    schedule K' K'.length = schedule K K.length

/-- R76 (d): from 72 bytes on, the schedule depends only on the first 72 key bytes. -/
def Obligations.LongKeySameSchedule : Prop :=
  ∀ K K' : List Byte, 72 ≤ K.length → 72 ≤ K'.length → K.take 72 = K'.take 72 →
    schedule K K.length = schedule K' K'.length

/-! ### The round function and the block cipher -/

/-- R80: F adds, exclusive-ors and adds four S-box words, mod 2^32, indexed by the four bytes of `x`, most significant
first. -/
def Obligations.RoundFunctionValue : Prop :=
  ∀ (Sv : SBoxes) (x : Word),
    let box (b : Fin 4) (k : Nat) : Nat := ((Sv[b])[x.toNat / 2 ^ k % 256]'(Nat.mod_lt _ (by decide))).toNat
    (F Sv x).toNat = ((((box 0 24 + box 1 16) % 2 ^ 32) ^^^ box 2 8) + box 3 0) % 2 ^ 32

/-- R85: the equivalent form of `EncBlock` without swaps. -/
def Obligations.EncBlockSwapFree : Prop :=
  ∀ (Pv : PArray) (Sv : SBoxes) (L R : Word),
    let lr := swapFree Pv Sv L R 16
    encBlock Pv Sv L R = (lr.2 ^^^ Pv[17], lr.1 ^^^ Pv[16])

/-- R87: for all table values, `DecBlock` undoes `EncBlock` and `EncBlock` undoes `DecBlock`, and both are
bijections on the blocks. -/
def Obligations.BlockTransformsAreInverse : Prop :=
  ∀ (Pv : PArray) (Sv : SBoxes),
    (∀ L R, decBlock Pv Sv (encBlock Pv Sv L R).1 (encBlock Pv Sv L R).2 = (L, R)) ∧
    (∀ L R, encBlock Pv Sv (decBlock Pv Sv L R).1 (decBlock Pv Sv L R).2 = (L, R)) ∧
    Function.Bijective (fun b : Word × Word => encBlock Pv Sv b.1 b.2) ∧
    Function.Bijective (fun b : Word × Word => decBlock Pv Sv b.1 b.2)

/-- R88: ENCB (word 2) encrypts `DL`, `DR` in place, clears the error and changes nothing else; unkeyed it raises
NOT_KEYED. -/
def Obligations.EncbEncryptsBlock : Prop :=
  decode 0x00000002#32 = .ok .encb ∧ ∀ s : State,
    (s.KEYED = true → exec .encb s = .next { s with
      DL := (encBlock s.P s.S s.DL s.DR).1, DR := (encBlock s.P s.S s.DL s.DR).2, ERR := .ok }) ∧
    (s.KEYED = false → exec .encb s = .next { s with ERR := .notKeyed })

/-- R89: DECB (word 3) decrypts `DL`, `DR` in place, clears the error and changes nothing else; unkeyed it raises
NOT_KEYED. ENCB followed by DECB, or the reverse, restores the block. -/
def Obligations.DecbDecryptsBlock : Prop :=
  decode 0x00000003#32 = .ok .decb ∧ ∀ s : State,
    (s.KEYED = true → exec .decb s = .next { s with
      DL := (decBlock s.P s.S s.DL s.DR).1, DR := (decBlock s.P s.S s.DL s.DR).2, ERR := .ok }) ∧
    (s.KEYED = false → exec .decb s = .next { s with ERR := .notKeyed }) ∧
    (s.KEYED = true →
      (∃ t, exec .encb s = .next t ∧ exec .decb t = .next { s with ERR := .ok }) ∧
      ∃ t, exec .decb s = .next t ∧ exec .encb t = .next { s with ERR := .ok })

/-! ### Messages -/

/-- R91: the padded message has length `pad8(n)`, the message in front and zero bytes behind it; a multiple of 8 is
not padded, and otherwise `8 - n mod 8` bytes are appended. -/
def Obligations.PaddingIsZeroToMultipleOfEight : Prop :=
  ∀ M : List Byte,
    (pad M).length = 8 * ((M.length + 7) / 8) ∧
    (∀ k, k < M.length → (pad M)[k]? = M[k]?) ∧
    (∀ k, M.length ≤ k → k < (pad M).length → (pad M)[k]? = some 0) ∧
    (M.length % 8 = 0 → pad M = M) ∧
    (M.length % 8 ≠ 0 → (pad M).length = M.length + (8 - M.length % 8))

/-- R92: `StripLen(B, n)` is the smallest `m` in 0 .. n such that every byte from `m` to `n - 1` is 0. -/
def Obligations.StripLenIsSmallest : Prop :=
  ∀ (B : List Byte) (n : Nat), n ≤ B.length →
    stripLen B n ≤ n ∧ (∀ k, stripLen B n ≤ k → k < n → B[k]? = some 0) ∧
    (∀ m, m ≤ n → (∀ k, m ≤ k → k < n → B[k]? = some 0) → stripLen B n ≤ m)

/-- R95: keyed, with a message that fits, ENCM (word 4) completes; each 8-byte block of the padded message is encrypted into
the same place of `OBUF`, `OLEN` is the padded length, every byte of `OBUF` behind it and everything else stays. -/
def Obligations.EncmEncryptsMessage : Prop :=
  decode 0x00000004#32 = .ok .encm ∧ ∀ s : State,
    let n := s.ILEN.toNat
    (s.KEYED = true → pad8 n ≤ s.bufBytes.bytes →
      ∃ t, exec .encm s = .next t ∧ t.OLEN.toNat = pad8 n ∧
        (∀ k, k < pad8 n / 8 →
          blockAt (obufByte t) k =
            encBlock s.P s.S (blockAt (paddedByte s) k).1 (blockAt (paddedByte s) k).2) ∧
        (∀ a, pad8 n ≤ a → obufByte t a = obufByte s a) ∧ (∀ a, ibufByte t a = ibufByte s a) ∧
        t = { s with OBUF := t.OBUF, OLEN := t.OLEN, ERR := .ok }) ∧
    (s.KEYED = false → exec .encm s = .next { s with ERR := .notKeyed }) ∧
    (s.KEYED = true → s.bufBytes.bytes < pad8 n → exec .encm s = .next { s with ERR := .length })

/-- R96: keyed, with a length that is a multiple of 8 and fits, DECM (word 5) completes; each 8-byte block is
decrypted into the same place of `OBUF`, `OLEN` is the length without the trailing zero bytes, every byte of `OBUF`
behind the `ILEN` bytes and everything else stays. -/
def Obligations.DecmDecryptsMessage : Prop :=
  decode 0x00000005#32 = .ok .decm ∧ ∀ s : State,
    let n := s.ILEN.toNat
    (s.KEYED = true → n % 8 = 0 → n ≤ s.bufBytes.bytes →
      ∃ t, exec .decm s = .next t ∧
        (∀ k, k < n / 8 →
          blockAt (obufByte t) k =
            decBlock s.P s.S (blockAt (ibufByte s) k).1 (blockAt (ibufByte s) k).2) ∧
        t.OLEN.toNat ≤ n ∧ (∀ a, t.OLEN.toNat ≤ a → a < n → obufByte t a = 0) ∧
        (0 < t.OLEN.toNat → obufByte t (t.OLEN.toNat - 1) ≠ 0) ∧
        (∀ a, n ≤ a → obufByte t a = obufByte s a) ∧ (∀ a, ibufByte t a = ibufByte s a) ∧
        t = { s with OBUF := t.OBUF, OLEN := t.OLEN, ERR := .ok }) ∧
    (s.KEYED = false → exec .decm s = .next { s with ERR := .notKeyed }) ∧
    (s.KEYED = true → n % 8 ≠ 0 → exec .decm s = .next { s with ERR := .truncatedBlock }) ∧
    (s.KEYED = true → n % 8 = 0 → s.bufBytes.bytes < n → exec .decm s = .next { s with ERR := .length })

/-- R100: the empty message is legal for both commands; `OLEN` and `ERR` become 0 and no byte is written. -/
def Obligations.EmptyMessage : Prop :=
  ∀ s : State, s.KEYED = true → s.ILEN = 0 →
    exec .encm s = .next { s with OLEN := 0, ERR := .ok } ∧ exec .decm s = .next { s with OLEN := 0, ERR := .ok }

/-- R97: an output block is a function of its input block and of `P`, `S` only: wherever a block stands, in whatever
message, equal input blocks give equal output blocks. -/
def Obligations.EqualBlocksTransformEqually : Prop :=
  ∀ (s s' t t' : State) (k k' : Nat), s.KEYED = true → s'.KEYED = true → s.P = s'.P → s.S = s'.S →
    (exec .encm s = .next t → exec .encm s' = .next t' → t.ERR = .ok → t'.ERR = .ok →
      8 * k < t.OLEN.toNat → 8 * k' < t'.OLEN.toNat →
      blockAt (paddedByte s) k = blockAt (paddedByte s') k' →
      blockAt (obufByte t) k = blockAt (obufByte t') k') ∧
    (exec .decm s = .next t → exec .decm s' = .next t' → t.ERR = .ok → t'.ERR = .ok →
      8 * k < s.ILEN.toNat → 8 * k' < s'.ILEN.toNat →
      blockAt (ibufByte s) k = blockAt (ibufByte s') k' →
      blockAt (obufByte t) k = blockAt (obufByte t') k')

/-- R105 with R97: cutting a message at a multiple of 8 bytes and transforming the pieces gives the pieces of what one
command gives. -/
def Obligations.MessageMayBeCutAtMultiplesOfEight : Prop :=
  ∀ (f : Word → Word → Word × Word) (A B : List Byte), A.length % 8 = 0 →
    mapBlocks f (pad (A ++ B)) = mapBlocks f (pad A) ++ mapBlocks f (pad B) ∧
    mapBlocks f (A ++ B) = mapBlocks f A ++ mapBlocks f B

/-- D31 with R95, R96, R115: no length wraps to a small number. Keyed and with `ILEN > BUF_BYTES`, ENCM only raises
LENGTH, and DECM only raises TRUNCATED_BLOCK if `ILEN` is no multiple of 8 and LENGTH if it is one. With
`ILEN ≤ BUF_BYTES`, ENCM completes without error and DECM does so if `ILEN` is a multiple of 8. -/
def Obligations.TooLongMessageIsRefused : Prop :=
  ∀ s : State, s.KEYED = true →
    (s.bufBytes.bytes < s.ILEN.toNat → exec .encm s = .next { s with ERR := .length } ∧
      (s.ILEN.toNat % 8 ≠ 0 → exec .decm s = .next { s with ERR := .truncatedBlock }) ∧
      (s.ILEN.toNat % 8 = 0 → exec .decm s = .next { s with ERR := .length })) ∧
    (s.ILEN.toNat ≤ s.bufBytes.bytes → (∃ t, exec .encm s = .next t ∧ t.ERR = .ok) ∧
      (s.ILEN.toNat % 8 = 0 → ∃ t, exec .decm s = .next t ∧ t.ERR = .ok))

/-- R104: keyed, with a message M of n bytes that fits, ENCM, the copy of the output to the input, and DECM give M
without its trailing zero bytes; exactly M if n = 0 or its last byte is not 0. -/
def Obligations.MessageRoundTrip : Prop :=
  ∀ s : State,
    let n := s.ILEN.toNat
    s.KEYED = true → pad8 n ≤ s.bufBytes.bytes →
    ∃ t u : State, exec .encm s = .next t ∧ exec .decm (copyOutputBack t) = .next u ∧ u.ERR = .ok ∧
      u.OLEN.toNat = stripLen (inputBytes s n) n ∧
      (∀ k, k < u.OLEN.toNat → obufByte u k = ibufByte s k) ∧
      (n = 0 ∨ ibufByte s (n - 1) ≠ 0 → u.OLEN.toNat = n)

/-- R39, R132: when the host has written every byte of the message, no command's effect depends on the unspecified
contents that reset left: with any other numbering of the free values (log 4) the command does the same. -/
def Obligations.WrittenMessageHidesUnspecifiedBytes : Prop :=
  ∀ (s t : State) (m : Nat) (i : Instr), InputWritten s → exec i s = .next t →
    exec i { s with resets := m } = .next { t with resets := m }

/-! ### The whole machine -/

/-- R53: what each command leaves alone, whether it ends in success or in an error. -/
def Obligations.CommandsWriteOnlyTheirElements : Prop :=
  ∀ s t : State,
    (exec .keyinit s = .next t → t = { s with
      P := t.P, S := t.S, KEYED := t.KEYED, KEYBUF := t.KEYBUF, KEYLEN := t.KEYLEN, ERR := t.ERR }) ∧
    (exec .encb s = .next t → t = { s with DL := t.DL, DR := t.DR, ERR := t.ERR }) ∧
    (exec .decb s = .next t → t = { s with DL := t.DL, DR := t.DR, ERR := t.ERR }) ∧
    (exec .encm s = .next t → t = { s with OBUF := t.OBUF, OLEN := t.OLEN, ERR := t.ERR } ∧
      ∀ a, pad8 s.ILEN.toNat ≤ a → obufByte t a = obufByte s a) ∧
    (exec .decm s = .next t → t = { s with OBUF := t.OBUF, OLEN := t.OLEN, ERR := t.ERR } ∧
      ∀ a, s.ILEN.toNat ≤ a → obufByte t a = obufByte s a)

/-- R12: `P` and `S` change only by a KEYINIT that completes without error, or by reset. -/
def Obligations.TablesChangeOnlyByKeyinitOrReset : Prop :=
  ∀ s t : State, step s = .next t → (t.P ≠ s.P ∨ t.S ≠ s.S) →
    ∃ rest, s.pending = .reset :: rest ∨
      (s.pending = .transaction ⟨0x000000#22, .write32 0x00000001#32⟩ :: rest ∧ s.KEYLEN ≠ 0 ∧ t.ERR = .ok)

/-- R16, R22: the engine never writes `IBUF`, the host never writes `OBUF`, and `OBUF`, `OLEN` are written only by an
ENCM or DECM that completes without error; only reset changes either of them too. -/
def Obligations.EachBufferHasOneWriter : Prop :=
  ∀ s t : State, step s = .next t →
    (t.IBUF ≠ s.IBUF → ∃ rest, s.pending = .reset :: rest ∨
      ∃ off v, off < s.bufBytes.bytes ∧ s.pending = .transaction ⟨BitVec.ofNat 22 (0x100000 + off), .write8 v⟩ :: rest) ∧
    ((t.OBUF ≠ s.OBUF ∨ t.OLEN ≠ s.OLEN) → ∃ rest, s.pending = .reset :: rest ∨
      ((s.pending = .transaction ⟨0x000000#22, .write32 0x00000004#32⟩ :: rest ∨
        s.pending = .transaction ⟨0x000000#22, .write32 0x00000005#32⟩ :: rest) ∧ s.KEYED = true ∧ t.ERR = .ok))

/-- R24, U1: while `KEYED = 0` the contents of `P` and `S` cannot be observed. Two states that differ only in them give
the same response to whatever the host does, and afterwards differ again only in them; and once keyed they are the
same. -/
def Obligations.TablesInvisibleWhileUnkeyed : Prop :=
  ∀ s t : State, SameButTables s t → s.KEYED = false →
    ∃ s' t' : State, step s = .next s' ∧ step t = .next t' ∧ SameButTables s' t' ∧ s'.response = t'.response ∧
      (s'.KEYED = true → s' = t')

/-- R11: no transaction but a command lets `P` or `S` be seen, keyed or not. -/
def Obligations.TablesNeverReadThroughThePort : Prop :=
  ∀ s t : State, SameButTables s t →
    (∀ w rest, s.pending ≠ .transaction ⟨0x000000#22, .write32 w⟩ :: rest) →
    ∃ s' t' : State, step s = .next s' ∧ step t = .next t' ∧ SameButTables s' t' ∧ s'.response = t'.response

/-- R15, R117: the key cannot be read back. Two states that differ only in `KEYBUF` give the same response to whatever
the host does but KEYINIT, and afterwards differ again only in `KEYBUF`. -/
def Obligations.KeyBytesCannotBeReadBack : Prop :=
  ∀ s t : State, SameButKeybuf s t →
    (∀ rest, s.pending ≠ .transaction ⟨0x000000#22, .write32 0x00000001#32⟩ :: rest) →
    ∃ s' t' : State, step s = .next s' ∧ step t = .next t' ∧ SameButKeybuf s' t' ∧ s'.response = t'.response

/-- R132: while the engine is unkeyed, the only command that can succeed is KEYINIT, and only with a key. -/
def Obligations.UnkeyedOnlyKeyinitSucceeds : Prop :=
  ∀ (s t : State) (i : Instr), s.KEYED = false → exec i s = .next t → t.ERR = .ok → i = .keyinit ∧ s.KEYLEN ≠ 0

/-- R24: the reset values, both of the state right after reset and of what a reset event makes of any state; `P`, `S`
and the buffer bytes are left unspecified (no claim is made of them). -/
def Obligations.ResetValues : Prop :=
  (let s := State.reset
   s.KEYED = false ∧ s.ERR = .ok ∧ s.KEYLEN = 0 ∧ (∀ i : Fin 72, s.KEYBUF[i] = 0) ∧ s.ILEN = 0 ∧ s.OLEN = 0 ∧
   s.DL = 0 ∧ s.DR = 0) ∧
  (∀ (u : State) (rest : List HostEvent), u.pending = .reset :: rest →
    ∃ s, step u = .next s ∧ s.KEYED = false ∧ s.ERR = .ok ∧ s.KEYLEN = 0 ∧ (∀ i : Fin 72, s.KEYBUF[i] = 0) ∧
      s.ILEN = 0 ∧ s.OLEN = 0 ∧ s.DL = 0 ∧ s.DR = 0 ∧ s.pending = rest)

/-- The invariant holds right after reset, where `OLEN` is 0 (R24) and no buffer byte is written. The canonical form of
the buffers (strictly rising offsets) is the model's own representation, log 3, and no rule of the spec. -/
def Obligations.ResetSatisfiesBufferDiscipline : Prop := State.reset.Inv

/-- Every step keeps the invariant: `OLEN` stays at most `BUF_BYTES` (R22), every byte of the output message has been
written (R16, R95, R96), no offset leaves its buffer (R30), and the buffers stay in canonical form. The last clause
(strictly rising offsets) is the model's own representation, log 3, and no rule of the spec. -/
def Obligations.StepKeepsBufferDiscipline : Prop := ∀ s t : State, s.Inv → step s = .next t → t.Inv
end

