-- ==== Sys2Proof/Laws/State.lean ====
section
/-! SUPPORT. One lemma per field per update of State (true by rfl), and what the reads of the machine give after each
update, so that no later proof unfolds a record update. -/

namespace Sys2Proof.Machine

section raiseError
variable (c : ErrCode) (s : State)
@[simp] theorem raiseError_P : (raiseError c s).P = s.P := rfl
@[simp] theorem raiseError_S : (raiseError c s).S = s.S := rfl
@[simp] theorem raiseError_KEYED : (raiseError c s).KEYED = s.KEYED := rfl
@[simp] theorem raiseError_ERR : (raiseError c s).ERR = c := rfl
@[simp] theorem raiseError_KEYBUF : (raiseError c s).KEYBUF = s.KEYBUF := rfl
@[simp] theorem raiseError_KEYLEN : (raiseError c s).KEYLEN = s.KEYLEN := rfl
@[simp] theorem raiseError_DL : (raiseError c s).DL = s.DL := rfl
@[simp] theorem raiseError_DR : (raiseError c s).DR = s.DR := rfl
@[simp] theorem raiseError_IBUF : (raiseError c s).IBUF = s.IBUF := rfl
@[simp] theorem raiseError_ILEN : (raiseError c s).ILEN = s.ILEN := rfl
@[simp] theorem raiseError_OBUF : (raiseError c s).OBUF = s.OBUF := rfl
@[simp] theorem raiseError_OLEN : (raiseError c s).OLEN = s.OLEN := rfl
@[simp] theorem raiseError_bufBytes : (raiseError c s).bufBytes = s.bufBytes := rfl
@[simp] theorem raiseError_resets : (raiseError c s).resets = s.resets := rfl
@[simp] theorem raiseError_pending : (raiseError c s).pending = s.pending := rfl
@[simp] theorem raiseError_response : (raiseError c s).response = s.response := rfl
end raiseError

section clearError
variable (s : State)
@[simp] theorem clearError_P : (clearError s).P = s.P := rfl
@[simp] theorem clearError_S : (clearError s).S = s.S := rfl
@[simp] theorem clearError_KEYED : (clearError s).KEYED = s.KEYED := rfl
@[simp] theorem clearError_ERR : (clearError s).ERR = .ok := rfl
@[simp] theorem clearError_KEYBUF : (clearError s).KEYBUF = s.KEYBUF := rfl
@[simp] theorem clearError_KEYLEN : (clearError s).KEYLEN = s.KEYLEN := rfl
@[simp] theorem clearError_DL : (clearError s).DL = s.DL := rfl
@[simp] theorem clearError_DR : (clearError s).DR = s.DR := rfl
@[simp] theorem clearError_IBUF : (clearError s).IBUF = s.IBUF := rfl
@[simp] theorem clearError_ILEN : (clearError s).ILEN = s.ILEN := rfl
@[simp] theorem clearError_OBUF : (clearError s).OBUF = s.OBUF := rfl
@[simp] theorem clearError_OLEN : (clearError s).OLEN = s.OLEN := rfl
@[simp] theorem clearError_bufBytes : (clearError s).bufBytes = s.bufBytes := rfl
@[simp] theorem clearError_resets : (clearError s).resets = s.resets := rfl
@[simp] theorem clearError_pending : (clearError s).pending = s.pending := rfl
@[simp] theorem clearError_response : (clearError s).response = s.response := rfl
end clearError

section installTables
variable (Pv : PArray) (Sv : SBoxes) (s : State)
@[simp] theorem installTables_P : (installTables Pv Sv s).P = Pv := rfl
@[simp] theorem installTables_S : (installTables Pv Sv s).S = Sv := rfl
@[simp] theorem installTables_KEYED : (installTables Pv Sv s).KEYED = true := rfl
@[simp] theorem installTables_ERR : (installTables Pv Sv s).ERR = s.ERR := rfl
@[simp] theorem installTables_KEYBUF : (installTables Pv Sv s).KEYBUF = s.KEYBUF := rfl
@[simp] theorem installTables_KEYLEN : (installTables Pv Sv s).KEYLEN = s.KEYLEN := rfl
@[simp] theorem installTables_DL : (installTables Pv Sv s).DL = s.DL := rfl
@[simp] theorem installTables_DR : (installTables Pv Sv s).DR = s.DR := rfl
@[simp] theorem installTables_IBUF : (installTables Pv Sv s).IBUF = s.IBUF := rfl
@[simp] theorem installTables_ILEN : (installTables Pv Sv s).ILEN = s.ILEN := rfl
@[simp] theorem installTables_OBUF : (installTables Pv Sv s).OBUF = s.OBUF := rfl
@[simp] theorem installTables_OLEN : (installTables Pv Sv s).OLEN = s.OLEN := rfl
@[simp] theorem installTables_bufBytes : (installTables Pv Sv s).bufBytes = s.bufBytes := rfl
@[simp] theorem installTables_resets : (installTables Pv Sv s).resets = s.resets := rfl
@[simp] theorem installTables_pending : (installTables Pv Sv s).pending = s.pending := rfl
@[simp] theorem installTables_response : (installTables Pv Sv s).response = s.response := rfl
end installTables

section eraseKey
variable (s : State)
@[simp] theorem eraseKey_P : (eraseKey s).P = s.P := rfl
@[simp] theorem eraseKey_S : (eraseKey s).S = s.S := rfl
@[simp] theorem eraseKey_KEYED : (eraseKey s).KEYED = s.KEYED := rfl
@[simp] theorem eraseKey_ERR : (eraseKey s).ERR = s.ERR := rfl
@[simp] theorem eraseKey_KEYBUF : (eraseKey s).KEYBUF = Vector.replicate 72 0 := rfl
@[simp] theorem eraseKey_KEYLEN : (eraseKey s).KEYLEN = 0 := rfl
@[simp] theorem eraseKey_DL : (eraseKey s).DL = s.DL := rfl
@[simp] theorem eraseKey_DR : (eraseKey s).DR = s.DR := rfl
@[simp] theorem eraseKey_IBUF : (eraseKey s).IBUF = s.IBUF := rfl
@[simp] theorem eraseKey_ILEN : (eraseKey s).ILEN = s.ILEN := rfl
@[simp] theorem eraseKey_OBUF : (eraseKey s).OBUF = s.OBUF := rfl
@[simp] theorem eraseKey_OLEN : (eraseKey s).OLEN = s.OLEN := rfl
@[simp] theorem eraseKey_bufBytes : (eraseKey s).bufBytes = s.bufBytes := rfl
@[simp] theorem eraseKey_resets : (eraseKey s).resets = s.resets := rfl
@[simp] theorem eraseKey_pending : (eraseKey s).pending = s.pending := rfl
@[simp] theorem eraseKey_response : (eraseKey s).response = s.response := rfl
end eraseKey

section setBlock
variable (lr : Word × Word) (s : State)
@[simp] theorem setBlock_P : (setBlock lr s).P = s.P := rfl
@[simp] theorem setBlock_S : (setBlock lr s).S = s.S := rfl
@[simp] theorem setBlock_KEYED : (setBlock lr s).KEYED = s.KEYED := rfl
@[simp] theorem setBlock_ERR : (setBlock lr s).ERR = s.ERR := rfl
@[simp] theorem setBlock_KEYBUF : (setBlock lr s).KEYBUF = s.KEYBUF := rfl
@[simp] theorem setBlock_KEYLEN : (setBlock lr s).KEYLEN = s.KEYLEN := rfl
@[simp] theorem setBlock_DL : (setBlock lr s).DL = lr.1 := rfl
@[simp] theorem setBlock_DR : (setBlock lr s).DR = lr.2 := rfl
@[simp] theorem setBlock_IBUF : (setBlock lr s).IBUF = s.IBUF := rfl
@[simp] theorem setBlock_ILEN : (setBlock lr s).ILEN = s.ILEN := rfl
@[simp] theorem setBlock_OBUF : (setBlock lr s).OBUF = s.OBUF := rfl
@[simp] theorem setBlock_OLEN : (setBlock lr s).OLEN = s.OLEN := rfl
@[simp] theorem setBlock_bufBytes : (setBlock lr s).bufBytes = s.bufBytes := rfl
@[simp] theorem setBlock_resets : (setBlock lr s).resets = s.resets := rfl
@[simp] theorem setBlock_pending : (setBlock lr s).pending = s.pending := rfl
@[simp] theorem setBlock_response : (setBlock lr s).response = s.response := rfl
end setBlock

section writeOutput
variable (out : List Byte) (len : Nat) (s : State)
@[simp] theorem writeOutput_P : (writeOutput out len s).P = s.P := rfl
@[simp] theorem writeOutput_S : (writeOutput out len s).S = s.S := rfl
@[simp] theorem writeOutput_KEYED : (writeOutput out len s).KEYED = s.KEYED := rfl
@[simp] theorem writeOutput_ERR : (writeOutput out len s).ERR = s.ERR := rfl
@[simp] theorem writeOutput_KEYBUF : (writeOutput out len s).KEYBUF = s.KEYBUF := rfl
@[simp] theorem writeOutput_KEYLEN : (writeOutput out len s).KEYLEN = s.KEYLEN := rfl
@[simp] theorem writeOutput_DL : (writeOutput out len s).DL = s.DL := rfl
@[simp] theorem writeOutput_DR : (writeOutput out len s).DR = s.DR := rfl
@[simp] theorem writeOutput_IBUF : (writeOutput out len s).IBUF = s.IBUF := rfl
@[simp] theorem writeOutput_ILEN : (writeOutput out len s).ILEN = s.ILEN := rfl
@[simp] theorem writeOutput_OBUF : (writeOutput out len s).OBUF = Memory.writeBytes s.OBUF 0 out := rfl
@[simp] theorem writeOutput_OLEN : (writeOutput out len s).OLEN = BitVec.ofNat 32 len := rfl
@[simp] theorem writeOutput_bufBytes : (writeOutput out len s).bufBytes = s.bufBytes := rfl
@[simp] theorem writeOutput_resets : (writeOutput out len s).resets = s.resets := rfl
@[simp] theorem writeOutput_pending : (writeOutput out len s).pending = s.pending := rfl
@[simp] theorem writeOutput_response : (writeOutput out len s).response = s.response := rfl
end writeOutput

section storeKeybuf
variable (i : Fin 72) (v : Byte) (s : State)
@[simp] theorem storeKeybuf_P : (storeKeybuf i v s).P = s.P := rfl
@[simp] theorem storeKeybuf_S : (storeKeybuf i v s).S = s.S := rfl
@[simp] theorem storeKeybuf_KEYED : (storeKeybuf i v s).KEYED = s.KEYED := rfl
@[simp] theorem storeKeybuf_ERR : (storeKeybuf i v s).ERR = s.ERR := rfl
@[simp] theorem storeKeybuf_KEYBUF : (storeKeybuf i v s).KEYBUF = s.KEYBUF.set i v := rfl
@[simp] theorem storeKeybuf_KEYLEN : (storeKeybuf i v s).KEYLEN = s.KEYLEN := rfl
@[simp] theorem storeKeybuf_DL : (storeKeybuf i v s).DL = s.DL := rfl
@[simp] theorem storeKeybuf_DR : (storeKeybuf i v s).DR = s.DR := rfl
@[simp] theorem storeKeybuf_IBUF : (storeKeybuf i v s).IBUF = s.IBUF := rfl
@[simp] theorem storeKeybuf_ILEN : (storeKeybuf i v s).ILEN = s.ILEN := rfl
@[simp] theorem storeKeybuf_OBUF : (storeKeybuf i v s).OBUF = s.OBUF := rfl
@[simp] theorem storeKeybuf_OLEN : (storeKeybuf i v s).OLEN = s.OLEN := rfl
@[simp] theorem storeKeybuf_bufBytes : (storeKeybuf i v s).bufBytes = s.bufBytes := rfl
@[simp] theorem storeKeybuf_resets : (storeKeybuf i v s).resets = s.resets := rfl
@[simp] theorem storeKeybuf_pending : (storeKeybuf i v s).pending = s.pending := rfl
@[simp] theorem storeKeybuf_response : (storeKeybuf i v s).response = s.response := rfl
end storeKeybuf

section storeIbuf
variable (off : Nat) (v : Byte) (s : State)
@[simp] theorem storeIbuf_P : (storeIbuf off v s).P = s.P := rfl
@[simp] theorem storeIbuf_S : (storeIbuf off v s).S = s.S := rfl
@[simp] theorem storeIbuf_KEYED : (storeIbuf off v s).KEYED = s.KEYED := rfl
@[simp] theorem storeIbuf_ERR : (storeIbuf off v s).ERR = s.ERR := rfl
@[simp] theorem storeIbuf_KEYBUF : (storeIbuf off v s).KEYBUF = s.KEYBUF := rfl
@[simp] theorem storeIbuf_KEYLEN : (storeIbuf off v s).KEYLEN = s.KEYLEN := rfl
@[simp] theorem storeIbuf_DL : (storeIbuf off v s).DL = s.DL := rfl
@[simp] theorem storeIbuf_DR : (storeIbuf off v s).DR = s.DR := rfl
@[simp] theorem storeIbuf_IBUF : (storeIbuf off v s).IBUF = Memory.write s.IBUF off v := rfl
@[simp] theorem storeIbuf_ILEN : (storeIbuf off v s).ILEN = s.ILEN := rfl
@[simp] theorem storeIbuf_OBUF : (storeIbuf off v s).OBUF = s.OBUF := rfl
@[simp] theorem storeIbuf_OLEN : (storeIbuf off v s).OLEN = s.OLEN := rfl
@[simp] theorem storeIbuf_bufBytes : (storeIbuf off v s).bufBytes = s.bufBytes := rfl
@[simp] theorem storeIbuf_resets : (storeIbuf off v s).resets = s.resets := rfl
@[simp] theorem storeIbuf_pending : (storeIbuf off v s).pending = s.pending := rfl
@[simp] theorem storeIbuf_response : (storeIbuf off v s).response = s.response := rfl
end storeIbuf

section respond
variable (r : Response) (s : State)
@[simp] theorem respond_P : (respond r s).P = s.P := rfl
@[simp] theorem respond_S : (respond r s).S = s.S := rfl
@[simp] theorem respond_KEYED : (respond r s).KEYED = s.KEYED := rfl
@[simp] theorem respond_ERR : (respond r s).ERR = s.ERR := rfl
@[simp] theorem respond_KEYBUF : (respond r s).KEYBUF = s.KEYBUF := rfl
@[simp] theorem respond_KEYLEN : (respond r s).KEYLEN = s.KEYLEN := rfl
@[simp] theorem respond_DL : (respond r s).DL = s.DL := rfl
@[simp] theorem respond_DR : (respond r s).DR = s.DR := rfl
@[simp] theorem respond_IBUF : (respond r s).IBUF = s.IBUF := rfl
@[simp] theorem respond_ILEN : (respond r s).ILEN = s.ILEN := rfl
@[simp] theorem respond_OBUF : (respond r s).OBUF = s.OBUF := rfl
@[simp] theorem respond_OLEN : (respond r s).OLEN = s.OLEN := rfl
@[simp] theorem respond_bufBytes : (respond r s).bufBytes = s.bufBytes := rfl
@[simp] theorem respond_resets : (respond r s).resets = s.resets := rfl
@[simp] theorem respond_pending : (respond r s).pending = s.pending := rfl
@[simp] theorem respond_response : (respond r s).response = some r := rfl
end respond

section takeEvent
variable (rest : List HostEvent) (s : State)
@[simp] theorem takeEvent_P : (takeEvent rest s).P = s.P := rfl
@[simp] theorem takeEvent_S : (takeEvent rest s).S = s.S := rfl
@[simp] theorem takeEvent_KEYED : (takeEvent rest s).KEYED = s.KEYED := rfl
@[simp] theorem takeEvent_ERR : (takeEvent rest s).ERR = s.ERR := rfl
@[simp] theorem takeEvent_KEYBUF : (takeEvent rest s).KEYBUF = s.KEYBUF := rfl
@[simp] theorem takeEvent_KEYLEN : (takeEvent rest s).KEYLEN = s.KEYLEN := rfl
@[simp] theorem takeEvent_DL : (takeEvent rest s).DL = s.DL := rfl
@[simp] theorem takeEvent_DR : (takeEvent rest s).DR = s.DR := rfl
@[simp] theorem takeEvent_IBUF : (takeEvent rest s).IBUF = s.IBUF := rfl
@[simp] theorem takeEvent_ILEN : (takeEvent rest s).ILEN = s.ILEN := rfl
@[simp] theorem takeEvent_OBUF : (takeEvent rest s).OBUF = s.OBUF := rfl
@[simp] theorem takeEvent_OLEN : (takeEvent rest s).OLEN = s.OLEN := rfl
@[simp] theorem takeEvent_bufBytes : (takeEvent rest s).bufBytes = s.bufBytes := rfl
@[simp] theorem takeEvent_resets : (takeEvent rest s).resets = s.resets := rfl
@[simp] theorem takeEvent_pending : (takeEvent rest s).pending = rest := rfl
@[simp] theorem takeEvent_response : (takeEvent rest s).response = s.response := rfl
end takeEvent

section resetEngine
variable (s : State)
@[simp] theorem resetEngine_P : (resetEngine s).P = (Engine.reset (s.resets + 1)).P := rfl
@[simp] theorem resetEngine_S : (resetEngine s).S = (Engine.reset (s.resets + 1)).S := rfl
@[simp] theorem resetEngine_KEYED : (resetEngine s).KEYED = false := rfl
@[simp] theorem resetEngine_ERR : (resetEngine s).ERR = .ok := rfl
@[simp] theorem resetEngine_KEYBUF : (resetEngine s).KEYBUF = Vector.replicate 72 0 := rfl
@[simp] theorem resetEngine_KEYLEN : (resetEngine s).KEYLEN = 0 := rfl
@[simp] theorem resetEngine_DL : (resetEngine s).DL = 0 := rfl
@[simp] theorem resetEngine_DR : (resetEngine s).DR = 0 := rfl
@[simp] theorem resetEngine_IBUF : (resetEngine s).IBUF = [] := rfl
@[simp] theorem resetEngine_ILEN : (resetEngine s).ILEN = 0 := rfl
@[simp] theorem resetEngine_OBUF : (resetEngine s).OBUF = [] := rfl
@[simp] theorem resetEngine_OLEN : (resetEngine s).OLEN = 0 := rfl
@[simp] theorem resetEngine_bufBytes : (resetEngine s).bufBytes = s.bufBytes := rfl
@[simp] theorem resetEngine_resets : (resetEngine s).resets = s.resets + 1 := rfl
@[simp] theorem resetEngine_pending : (resetEngine s).pending = s.pending := rfl
@[simp] theorem resetEngine_response : (resetEngine s).response = none := rfl
end resetEngine

section storeReg
variable (r : Reg) (v : Word) (s : State)
@[simp] theorem storeReg_P : (storeReg r v s).P = s.P := by cases r <;> rfl
@[simp] theorem storeReg_S : (storeReg r v s).S = s.S := by cases r <;> rfl
@[simp] theorem storeReg_KEYED : (storeReg r v s).KEYED = s.KEYED := by cases r <;> rfl
@[simp] theorem storeReg_ERR : (storeReg r v s).ERR = s.ERR := by cases r <;> rfl
@[simp] theorem storeReg_KEYBUF : (storeReg r v s).KEYBUF = s.KEYBUF := by cases r <;> rfl
@[simp] theorem storeReg_IBUF : (storeReg r v s).IBUF = s.IBUF := by cases r <;> rfl
@[simp] theorem storeReg_OBUF : (storeReg r v s).OBUF = s.OBUF := by cases r <;> rfl
@[simp] theorem storeReg_OLEN : (storeReg r v s).OLEN = s.OLEN := by cases r <;> rfl
@[simp] theorem storeReg_bufBytes : (storeReg r v s).bufBytes = s.bufBytes := by cases r <;> rfl
@[simp] theorem storeReg_resets : (storeReg r v s).resets = s.resets := by cases r <;> rfl
@[simp] theorem storeReg_pending : (storeReg r v s).pending = s.pending := by cases r <;> rfl
@[simp] theorem storeReg_response : (storeReg r v s).response = s.response := by cases r <;> rfl
@[simp] theorem storeReg_KEYLEN : (storeReg r v s).KEYLEN = if r = .KEYLEN then saturateKeylen v else s.KEYLEN := by
  cases r <;> rfl
@[simp] theorem storeReg_ILEN : (storeReg r v s).ILEN = if r = .ILEN then v else s.ILEN := by cases r <;> rfl
@[simp] theorem storeReg_DL : (storeReg r v s).DL = if r = .DL then v else s.DL := by cases r <;> rfl
@[simp] theorem storeReg_DR : (storeReg r v s).DR = if r = .DR then v else s.DR := by cases r <;> rfl
end storeReg

/-! Reads of the buffers after an update that leaves them alone. -/

@[simp] theorem ibufByte_raiseError (c : ErrCode) (s : State) (k : Nat) : ibufByte (raiseError c s) k = ibufByte s k := rfl
@[simp] theorem obufByte_raiseError (c : ErrCode) (s : State) (k : Nat) : obufByte (raiseError c s) k = obufByte s k := rfl
@[simp] theorem ibufByte_clearError (s : State) (k : Nat) : ibufByte (clearError s) k = ibufByte s k := rfl
@[simp] theorem obufByte_clearError (s : State) (k : Nat) : obufByte (clearError s) k = obufByte s k := rfl
@[simp] theorem ibufByte_installTables (Pv : PArray) (Sv : SBoxes) (s : State) (k : Nat) : ibufByte (installTables Pv Sv s) k = ibufByte s k := rfl
@[simp] theorem obufByte_installTables (Pv : PArray) (Sv : SBoxes) (s : State) (k : Nat) : obufByte (installTables Pv Sv s) k = obufByte s k := rfl
@[simp] theorem ibufByte_eraseKey (s : State) (k : Nat) : ibufByte (eraseKey s) k = ibufByte s k := rfl
@[simp] theorem obufByte_eraseKey (s : State) (k : Nat) : obufByte (eraseKey s) k = obufByte s k := rfl
@[simp] theorem ibufByte_setBlock (lr : Word × Word) (s : State) (k : Nat) : ibufByte (setBlock lr s) k = ibufByte s k := rfl
@[simp] theorem obufByte_setBlock (lr : Word × Word) (s : State) (k : Nat) : obufByte (setBlock lr s) k = obufByte s k := rfl
@[simp] theorem ibufByte_writeOutput (out : List Byte) (len : Nat) (s : State) (k : Nat) : ibufByte (writeOutput out len s) k = ibufByte s k := rfl
@[simp] theorem ibufByte_storeKeybuf (i : Fin 72) (v : Byte) (s : State) (k : Nat) : ibufByte (storeKeybuf i v s) k = ibufByte s k := rfl
@[simp] theorem obufByte_storeKeybuf (i : Fin 72) (v : Byte) (s : State) (k : Nat) : obufByte (storeKeybuf i v s) k = obufByte s k := rfl
@[simp] theorem ibufByte_respond (r : Response) (s : State) (k : Nat) : ibufByte (respond r s) k = ibufByte s k := rfl
@[simp] theorem obufByte_respond (r : Response) (s : State) (k : Nat) : obufByte (respond r s) k = obufByte s k := rfl
@[simp] theorem ibufByte_takeEvent (rest : List HostEvent) (s : State) (k : Nat) : ibufByte (takeEvent rest s) k = ibufByte s k := rfl
@[simp] theorem obufByte_takeEvent (rest : List HostEvent) (s : State) (k : Nat) : obufByte (takeEvent rest s) k = obufByte s k := rfl
@[simp] theorem obufByte_storeIbuf (off : Nat) (v : Byte) (s : State) (k : Nat) :
    obufByte (storeIbuf off v s) k = obufByte s k := rfl

/-- Taking the events back that a state already holds changes nothing. -/
@[simp] theorem takeEvent_pending_self (s : State) : takeEvent s.pending s = s := rfl

@[simp] theorem takeEvent_takeEvent (r r' : List HostEvent) (s : State) :
    takeEvent r (takeEvent r' s) = takeEvent r s := rfl

end Sys2Proof.Machine
end

