-- ==== Sys2Proof/Laws/Memory.lean ====
section
/-! SUPPORT. The laws of the message buffers: a read after a write, what a write leaves alone, and that every
operation keeps the canonical form. -/

namespace Sys2Proof.Machine

@[simp] theorem lookup_nil (a : Nat) : Memory.lookup [] a = none := rfl

theorem lookup_write (m : Memory) (a b : Nat) (v : Byte) :
    Memory.lookup (Memory.write m a v) b = if a = b then some v else Memory.lookup m b := by
  induction m with
  | nil => rfl
  | cons c m ih =>
    obtain ⟨k, w⟩ := c
    simp only [Memory.write]
    split
    · rfl
    · split
      · subst a
        simp only [Memory.lookup]
        split <;> rfl
      · rename_i hk
        simp only [Memory.lookup, ih]
        by_cases hkb : k = b
        · subst hkb
          simp [hk]
        · simp [hkb]

@[simp] theorem lookup_write_self (m : Memory) (a : Nat) (v : Byte) :
    Memory.lookup (Memory.write m a v) a = some v := by simp [lookup_write]

theorem lookup_write_ne (m : Memory) {a b : Nat} (v : Byte) (h : a ≠ b) :
    Memory.lookup (Memory.write m a v) b = Memory.lookup m b := by simp [lookup_write, h]

/-- What a list of bytes stored at `a` makes of every offset. -/
theorem lookup_writeBytes (m : Memory) (a : Nat) (bs : List Byte) (b : Nat) :
    Memory.lookup (Memory.writeBytes m a bs) b =
      if a ≤ b ∧ b < a + bs.length then bs[b - a]? else Memory.lookup m b := by
  induction bs generalizing m a with
  | nil => simp [Memory.writeBytes]
  | cons v bs ih =>
    rw [Memory.writeBytes, ih, lookup_write]
    by_cases hab : a = b
    · subst hab
      simp
    · by_cases h : a + 1 ≤ b ∧ b < a + 1 + bs.length
      · have h' : a ≤ b ∧ b < a + (v :: bs).length := by simp; omega
        obtain ⟨d, hd⟩ : ∃ d, b - a = d + 1 := ⟨b - a - 1, by omega⟩
        have hd' : b - (a + 1) = d := by omega
        simp only [h, h', and_self, if_true, hd, hd', List.getElem?_cons_succ]
      · have h' : ¬(a ≤ b ∧ b < a + (v :: bs).length) := by simp; omega
        simp only [h, h', if_false, hab]

/-- Every entry of a write is the new one or an old one. -/
theorem mem_write {m : Memory} {a : Nat} {v : Byte} {c : Host.Cell} (h : c ∈ Memory.write m a v) :
    c = (a, v) ∨ c ∈ m := by
  induction m with
  | nil => simpa [Memory.write] using h
  | cons d m ih =>
    obtain ⟨k, w⟩ := d
    simp only [Memory.write] at h
    split at h
    · simpa using h
    · split at h
      · rcases List.mem_cons.1 h with h | h
        · exact .inl h
        · exact .inr (List.mem_cons_of_mem _ h)
      · rcases List.mem_cons.1 h with h | h
        · exact .inr (by simp [h])
        · exact (ih h).imp id (List.mem_cons_of_mem _)

/-- A write keeps the offsets strictly rising. -/
theorem write_pairwise {m : Memory} (h : m.Pairwise fun x y => x.1 < y.1) (a : Nat) (v : Byte) :
    (Memory.write m a v).Pairwise fun x y => x.1 < y.1 := by
  induction m with
  | nil => simp [Memory.write]
  | cons d m ih =>
    obtain ⟨k, w⟩ := d
    rw [List.pairwise_cons] at h
    simp only [Memory.write]
    split
    · rename_i hak
      refine List.pairwise_cons.2 ⟨fun c hc => ?_, List.pairwise_cons.2 h⟩
      rcases List.mem_cons.1 hc with hc | hc
      · simpa [hc] using hak
      · exact hak.trans (h.1 c hc)
    · split
      · rename_i hk
        subst hk
        exact List.pairwise_cons.2 ⟨fun c hc => h.1 c hc, h.2⟩
      · rename_i h1 h2
        refine List.pairwise_cons.2 ⟨fun c hc => ?_, ih h.2⟩
        rcases mem_write hc with hc | hc
        · simp only [hc]
          omega
        · exact h.1 c hc

/-- A write inside the buffer keeps the canonical form. -/
theorem write_wf {n : Nat} {m : Memory} (h : Memory.wf n m) {a : Nat} (ha : a < n) (v : Byte) :
    Memory.wf n (Memory.write m a v) := by
  refine ⟨write_pairwise h.1 a v, fun c hc => ?_⟩
  rcases mem_write hc with hc | hc
  · simpa [hc] using ha
  · exact h.2 c hc

/-- Bytes stored inside the buffer keep the canonical form. -/
theorem writeBytes_wf {n : Nat} {m : Memory} (h : Memory.wf n m) {a : Nat} {bs : List Byte}
    (ha : a + bs.length ≤ n) : Memory.wf n (Memory.writeBytes m a bs) := by
  induction bs generalizing m a with
  | nil => exact h
  | cons v bs ih =>
    simp only [List.length_cons] at ha
    exact ih (write_wf h (by omega) v) (by omega)

/-- The empty buffer is in canonical form. -/
theorem nil_wf (n : Nat) : Memory.wf n [] := by simp [Memory.wf]

/-- The buffers of the state right after reset are in canonical form. -/
theorem reset_buffers_wf :
    Memory.wf State.reset.bufBytes.bytes State.reset.IBUF ∧ Memory.wf State.reset.bufBytes.bytes State.reset.OBUF :=
  ⟨nil_wf _, nil_wf _⟩

/-- A host write of one `IBUF` byte: that byte reads as written, every other as before. -/
theorem ibufByte_storeIbuf (off : Nat) (v : Byte) (s : State) (k : Nat) :
    ibufByte (storeIbuf off v s) k = if off = k then v else ibufByte s k := by
  by_cases h : off = k <;> simp [ibufByte, lookup_write, h]

/-- The output bytes read as written, every byte of `OBUF` past them as before (R99). -/
theorem obufByte_writeOutput (out : List Byte) (len : Nat) (s : State) (k : Nat) :
    obufByte (writeOutput out len s) k = if k < out.length then out.getD k 0 else obufByte s k := by
  simp only [obufByte, writeOutput_OBUF, writeOutput_resets, lookup_writeBytes]
  by_cases h : k < out.length <;> simp [h]

end Sys2Proof.Machine
end

