-- ==== Sys2Proof/Laws/Operands.lean ====
section
/-! SUPPORT. The laws of the byte-order and message helpers (00_scope.md R7, 30_encoding.md R55, 44_message_codec.md
R91). -/

namespace Sys2Proof.Machine

@[simp] theorem byteA_be32 (b0 b1 b2 b3 : Byte) : byteA (be32 b0 b1 b2 b3) = b0 := by
  unfold byteA be32; ext i hi; interval_cases i <;> simp

@[simp] theorem byteB_be32 (b0 b1 b2 b3 : Byte) : byteB (be32 b0 b1 b2 b3) = b1 := by
  unfold byteB be32; ext i hi; interval_cases i <;> simp

@[simp] theorem byteC_be32 (b0 b1 b2 b3 : Byte) : byteC (be32 b0 b1 b2 b3) = b2 := by
  unfold byteC be32; ext i hi; interval_cases i <;> simp

@[simp] theorem byteD_be32 (b0 b1 b2 b3 : Byte) : byteD (be32 b0 b1 b2 b3) = b3 := by
  unfold byteD be32; ext i hi; interval_cases i <;> simp

@[simp] theorem be32_bytes (w : Word) : be32 (byteA w) (byteB w) (byteC w) (byteD w) = w := by
  unfold be32 byteA byteB byteC byteD; ext i hi; interval_cases i <;> simp

@[simp] theorem ser32_length (w : Word) : (ser32 w).length = 4 := rfl

@[simp] theorem ser32_be32 (b0 b1 b2 b3 : Byte) : ser32 (be32 b0 b1 b2 b3) = [b0, b1, b2, b3] := by simp [ser32]

@[simp] theorem serialise_length (lr : Word × Word) : (serialise lr).length = 8 := rfl

/-- `Serialise` undoes `Parse` (R55). -/
theorem serialise_parse (c0 c1 c2 c3 c4 c5 c6 c7 : Byte) :
    serialise (parse c0 c1 c2 c3 c4 c5 c6 c7) = [c0, c1, c2, c3, c4, c5, c6, c7] := by
  simp [serialise, parse]

/-- `Parse` undoes `Serialise` (R55). -/
theorem parse_serialise (lr : Word × Word) :
    parse (byteA lr.1) (byteB lr.1) (byteC lr.1) (byteD lr.1) (byteA lr.2) (byteB lr.2) (byteC lr.2) (byteD lr.2)
      = lr := by
  simp [parse]

theorem le_pad8 (n : Nat) : n ≤ pad8 n := by unfold pad8; omega

theorem pad8_lt (n : Nat) : pad8 n < n + 8 := by unfold pad8; omega

@[simp] theorem pad8_mod (n : Nat) : pad8 n % 8 = 0 := by unfold pad8; omega

theorem pad8_of_mod {n : Nat} (h : n % 8 = 0) : pad8 n = n := by unfold pad8; omega

/-- Against a multiple of 8, a length and its padded length compare alike. -/
theorem pad8_le_iff {n b : Nat} (h : b % 8 = 0) : pad8 n ≤ b ↔ n ≤ b := by unfold pad8; omega

@[simp] theorem pad_length (M : List Byte) : (pad M).length = pad8 M.length := by
  have := le_pad8 M.length
  simp only [pad, List.length_append, List.length_replicate]
  omega

@[simp] theorem inputBytes_length (s : State) (n : Nat) : (inputBytes s n).length = n := by simp [inputBytes]

@[simp] theorem outputBytes_length (s : State) (n : Nat) : (outputBytes s n).length = n := by simp [outputBytes]

/-- Eight more bytes in front are one more block in front (R97). -/
theorem mapBlocks_cons (f : Word → Word → Word × Word) (c0 c1 c2 c3 c4 c5 c6 c7 : Byte) (rest : List Byte) :
    mapBlocks f (c0 :: c1 :: c2 :: c3 :: c4 :: c5 :: c6 :: c7 :: rest) =
      serialise (f (be32 c0 c1 c2 c3) (be32 c4 c5 c6 c7)) ++ mapBlocks f rest := rfl

/-- A byte sequence of 8 or more bytes is its first eight and the rest. -/
theorem exists_eight_cons {M : List Byte} (h : 8 ≤ M.length) :
    ∃ c0 c1 c2 c3 c4 c5 c6 c7 rest, M = c0 :: c1 :: c2 :: c3 :: c4 :: c5 :: c6 :: c7 :: rest := by
  match M, h with
  | c0 :: c1 :: c2 :: c3 :: c4 :: c5 :: c6 :: c7 :: rest, _ => exact ⟨c0, c1, c2, c3, c4, c5, c6, c7, rest, rfl⟩

/-- The output has as many bytes as the whole blocks of the input. -/
theorem mapBlocks_length (f : Word → Word → Word × Word) (nb : Nat) (M : List Byte) (h : M.length = 8 * nb) :
    (mapBlocks f M).length = 8 * nb := by
  induction nb generalizing M with
  | zero =>
    have : M = [] := List.eq_nil_of_length_eq_zero (by omega)
    subst this
    rfl
  | succ nb ih =>
    obtain ⟨c0, c1, c2, c3, c4, c5, c6, c7, rest, rfl⟩ := exists_eight_cons (M := M) (by omega)
    simp only [List.length_cons] at h
    rw [mapBlocks_cons, List.length_append, ih rest (by omega), serialise_length]
    omega

/-- Byte `j` of output block `k` is byte `j` of the transformed input block `k` (R95, R96). -/
theorem mapBlocks_getD (f : Word → Word → Word × Word) {nb k j : Nat} {M : List Byte} (h : M.length = 8 * nb)
    (hk : k < nb) (hj : j < 8) :
    (mapBlocks f M).getD (8 * k + j) 0 =
      (serialise (f
        (be32 (M.getD (8 * k) 0) (M.getD (8 * k + 1) 0) (M.getD (8 * k + 2) 0) (M.getD (8 * k + 3) 0))
        (be32 (M.getD (8 * k + 4) 0) (M.getD (8 * k + 5) 0) (M.getD (8 * k + 6) 0) (M.getD (8 * k + 7) 0)))).getD j 0 := by
  induction k generalizing nb M with
  | zero =>
    obtain ⟨c0, c1, c2, c3, c4, c5, c6, c7, rest, rfl⟩ := exists_eight_cons (M := M) (by omega)
    rw [mapBlocks_cons, List.getD_append _ _ _ _ (by rw [serialise_length]; omega)]
    simp
  | succ k ih =>
    obtain ⟨c0, c1, c2, c3, c4, c5, c6, c7, rest, rfl⟩ := exists_eight_cons (M := M) (by omega)
    simp only [List.length_cons] at h
    have hrest : rest.length = 8 * (nb - 1) := by omega
    rw [mapBlocks_cons, List.getD_append_right _ _ _ _ (by rw [serialise_length]; omega), serialise_length,
      show 8 * (k + 1) + j - 8 = 8 * k + j by omega, ih hrest (by omega)]
    simp [show 8 * (k + 1) = 8 * k + 8 by omega, Nat.add_right_comm]

end Sys2Proof.Machine
end

