-- ==== Sys2Proof/Laws/Exec.lean ====
section
/-! SUPPORT. What each command, each transaction and a step can do, said once: if it answers next, then one of these
cases holds. -/

namespace Sys2Proof.Machine

/-- `decode` over the two fields of the word (R51). -/
theorem decode_eq (w : Word) :
    decode w = if w.extractLsb' 8 24 = 0 then commandOfOpcode (w.extractLsb' 0 8)
      else .error (.reservedBits (w.extractLsb' 8 24)) := rfl

@[simp] theorem raise_eq (c : ErrCode) (s : State) : raise c s = .next (raiseError c s) := rfl

@[simp] theorem complete_eq (s : State) : complete s = .next (clearError s) := rfl

/-- Everything KEYINIT can do (R70). -/
theorem execKeyinit_next {s t : State} (h : execKeyinit s = .next t) :
    (s.KEYLEN = 0 ∧ t = raiseError .invalidKey s) ∨
    (s.KEYLEN ≠ 0 ∧ t = clearError (eraseKey (installTables (schedule (keyBytes s) s.KEYLEN.val).1
      (schedule (keyBytes s) s.KEYLEN.val).2 s))) := by
  unfold execKeyinit at h
  split at h
  · exact .inl ⟨‹_›, by simpa using h.symm⟩
  · exact .inr ⟨‹_›, by simpa using h.symm⟩

/-- Everything ENCB can do (R88). -/
theorem execEncb_next {s t : State} (h : execEncb s = .next t) :
    (s.KEYED = false ∧ t = raiseError .notKeyed s) ∨
    (s.KEYED = true ∧ t = clearError (setBlock (encBlock s.P s.S s.DL s.DR) s)) := by
  unfold execEncb at h
  split at h
  · exact .inr ⟨‹_›, by simpa using h.symm⟩
  · exact .inl ⟨Bool.eq_false_of_not_eq_true ‹_›, by simpa using h.symm⟩

/-- Everything DECB can do (R89). -/
theorem execDecb_next {s t : State} (h : execDecb s = .next t) :
    (s.KEYED = false ∧ t = raiseError .notKeyed s) ∨
    (s.KEYED = true ∧ t = clearError (setBlock (decBlock s.P s.S s.DL s.DR) s)) := by
  unfold execDecb at h
  split at h
  · exact .inr ⟨‹_›, by simpa using h.symm⟩
  · exact .inl ⟨Bool.eq_false_of_not_eq_true ‹_›, by simpa using h.symm⟩

/-- Everything ENCM can do (R95). -/
theorem execEncm_next {s t : State} (h : execEncm s = .next t) :
    (s.KEYED = false ∧ t = raiseError .notKeyed s) ∨
    (s.KEYED = true ∧ s.bufBytes.bytes < pad8 s.ILEN.toNat ∧ t = raiseError .length s) ∨
    (s.KEYED = true ∧ pad8 s.ILEN.toNat ≤ s.bufBytes.bytes ∧
      t = clearError (writeOutput (mapBlocks (encBlock s.P s.S) (pad (inputBytes s s.ILEN.toNat)))
        (pad8 s.ILEN.toNat) s)) := by
  unfold execEncm at h
  simp only at h
  split at h
  · exact .inl ⟨‹_›, by simpa using h.symm⟩
  · rename_i hk
    have hk : s.KEYED = true := Bool.eq_true_of_not_eq_false hk
    split at h
    · exact .inr (.inl ⟨hk, ‹_›, by simpa using h.symm⟩)
    · exact .inr (.inr ⟨hk, by omega, by simpa using h.symm⟩)

/-- Everything DECM can do (R96). -/
theorem execDecm_next {s t : State} (h : execDecm s = .next t) :
    (s.KEYED = false ∧ t = raiseError .notKeyed s) ∨
    (s.KEYED = true ∧ s.ILEN.toNat % 8 ≠ 0 ∧ t = raiseError .truncatedBlock s) ∨
    (s.KEYED = true ∧ s.ILEN.toNat % 8 = 0 ∧ s.bufBytes.bytes < s.ILEN.toNat ∧ t = raiseError .length s) ∨
    (s.KEYED = true ∧ s.ILEN.toNat % 8 = 0 ∧ s.ILEN.toNat ≤ s.bufBytes.bytes ∧
      t = clearError (writeOutput (decryptedBytes s s.ILEN.toNat)
        (stripLen (decryptedBytes s s.ILEN.toNat) s.ILEN.toNat) s)) := by
  unfold execDecm at h
  simp only at h
  split at h
  · exact .inl ⟨‹_›, by simpa using h.symm⟩
  · rename_i hk
    have hk : s.KEYED = true := Bool.eq_true_of_not_eq_false hk
    split at h
    · exact .inr (.inl ⟨hk, ‹_›, by simpa using h.symm⟩)
    · rename_i hm
      have hm : s.ILEN.toNat % 8 = 0 := by omega
      split at h
      · exact .inr (.inr (.inl ⟨hk, hm, ‹_›, by simpa using h.symm⟩))
      · exact .inr (.inr (.inr ⟨hk, hm, by omega, by simpa using h.symm⟩))

/-- Everything a write of `w` to `CMD` can do (R18, R52). -/
theorem command_next {w : Word} {s t : State} (h : command w s = .next t) :
    (∃ i, decode w = .ok i ∧ exec i s = .next t) ∨
    (∃ e, decode w = .error e ∧ t = raiseError .illegalCmd s) := by
  unfold command at h
  split at h
  · exact .inl ⟨_, ‹_›, h⟩
  · exact .inr ⟨_, ‹_›, by simpa using h.symm⟩

/-- Everything a 32-bit write of a register can do (R17). -/
theorem performWrite_next {r : Reg} {v : Word} {s t : State} (h : performWrite r v s = .next t) :
    (r = .CMD ∧ command v s = .next t) ∨ (r ≠ .CMD ∧ t = storeReg r v s) := by
  cases r
  case CMD => exact .inl ⟨rfl, h⟩
  all_goals exact .inr ⟨by simp, by simpa [performWrite] using h.symm⟩

theorem answer_next {r : Response} {o : Result} {t : State} (h : answer r o = .next t) :
    ∃ u, o = .next u ∧ t = respond r u := by
  cases o with
  | next u => exact ⟨u, rfl, by simpa [answer] using h.symm⟩
  | fault f => cases f
  | refused f => simp [answer] at h

/-- Everything a legal transaction can do (R30, R37). -/
theorem performOp_next {op : PortOp} {s t : State} (h : performOp op s = .next t) :
    (∃ r, op = .readReg r ∧ t = respond (.okay32 (readReg s r)) s) ∨
    (∃ w u, op = .writeReg .CMD w ∧ command w s = .next u ∧ t = respond .okay u) ∨
    (∃ r v, r ≠ .CMD ∧ op = .writeReg r v ∧ t = respond .okay (storeReg r v s)) ∨
    (∃ i, op = .readKeybuf i ∧ t = respond (.okay8 0) s) ∨
    (∃ i v, op = .writeKeybuf i v ∧ t = respond .okay (storeKeybuf i v s)) ∨
    (∃ off, op = .readIbuf off ∧ t = respond (.okay8 (ibufByte s off)) s) ∨
    (∃ off v, op = .writeIbuf off v ∧ t = respond .okay (storeIbuf off v s)) ∨
    (∃ off, op = .readObuf off ∧ t = respond (.okay8 (obufByte s off)) s) ∨
    (∃ off v, op = .writeObuf off v ∧ t = respond .okay s) := by
  cases op with
  | writeReg r v =>
    obtain ⟨u, hu, rfl⟩ := answer_next h
    rcases performWrite_next hu with ⟨rfl, hc⟩ | ⟨hr, rfl⟩
    · exact .inr (.inl ⟨v, u, rfl, hc, rfl⟩)
    · exact .inr (.inr (.inl ⟨r, v, hr, rfl, rfl⟩))
  | _ => simp_all [performOp, eq_comm]

/-- Everything a transaction can do (R35). -/
theorem performTransaction_next {tr : Transaction} {s t : State} (h : performTransaction tr s = .next t) :
    (portOp s.bufBytes tr = none ∧ t = respond .error s) ∨
    (∃ op, portOp s.bufBytes tr = some op ∧ performOp op s = .next t) := by
  unfold performTransaction at h
  split at h
  · exact .inr ⟨_, ‹_›, h⟩
  · exact .inl ⟨‹_›, by simpa using h.symm⟩

/-- Everything a step can do (R6, R131). -/
theorem step_next {s t : State} (h : step s = .next t) :
    (s.pending = [] ∧ t = s) ∨
    (∃ rest, s.pending = .reset :: rest ∧ t = resetEngine (takeEvent rest s)) ∨
    (∃ tr rest, s.pending = .transaction tr :: rest ∧ performTransaction tr (takeEvent rest s) = .next t) := by
  unfold step at h
  split at h
  · exact .inl ⟨‹_›, by simpa using h.symm⟩
  · rename_i e rest hp
    cases e with
    | reset => exact .inr (.inl ⟨rest, hp, by simpa [performEvent] using h.symm⟩)
    | transaction tr => exact .inr (.inr ⟨tr, rest, hp, h⟩)

end Sys2Proof.Machine
end

