-- ==== Sys2Proof/Laws/PerInstr.lean ====
section
/-! SUPPORT. Per command: it is well formed, its word is the opcode of the table (R50), and the word decodes to it. -/

namespace Sys2Proof.Laws.Encoding

/-- The opcode of the table of 30_encoding.md R50. -/
def opcode : Instr → Nat
  | .keyinit => 1
  | .encb => 2
  | .decb => 3
  | .encm => 4
  | .decm => 5

/-- The command is well formed, its whole word equals its opcode (R51), and that word decodes to it. -/
def Statement (i : Instr) : Prop :=
  i.wf = true ∧ (encode i).toNat = opcode i ∧ decode (encode i) = .ok i

theorem keyinit : Statement .keyinit := ⟨rfl, rfl, rfl⟩
theorem encb : Statement .encb := ⟨rfl, rfl, rfl⟩
theorem decb : Statement .decb := ⟨rfl, rfl, rfl⟩
theorem encm : Statement .encm := ⟨rfl, rfl, rfl⟩
theorem decm : Statement .decm := ⟨rfl, rfl, rfl⟩

end Sys2Proof.Laws.Encoding
end

