-- ==== Sys2Proof/Laws/Schedule.lean ====
section
/-! SUPPORT. The key schedule's small lemmas (41_key_schedule.md R71): what each step makes of the working tables. -/

namespace Sys2Proof.Machine

section
variable (K : List Byte) (n : Nat) (w : Working) (k : Fin 9) (b : Fin 4) (j : Fin 128)

@[simp] theorem scheduleStart_Sv : (scheduleStart K n).Sv = sInit := rfl
@[simp] theorem scheduleStart_L : (scheduleStart K n).L = 0 := rfl
@[simp] theorem scheduleStart_R : (scheduleStart K n).R = 0 := rfl

/-- Step 2: the key word of each index is mixed into the constant (R71). -/
theorem scheduleStart_Pv (i : Nat) (h : i < 18) : (scheduleStart K n).Pv[i] = pInit[i] ^^^ keyWord K n i := by
  simp [scheduleStart]

@[simp] theorem stepP_Sv : (stepP w k).Sv = w.Sv := rfl
@[simp] theorem stepP_L : (stepP w k).L = (nextBlock w).1 := rfl
@[simp] theorem stepP_R : (stepP w k).R = (nextBlock w).2 := rfl

/-- Step 3 stores the new block in words `2k` and `2k + 1` and leaves the others (R71). -/
theorem stepP_Pv (i : Nat) (h : i < 18) :
    (stepP w k).Pv[i] = if i = 2 * k.val then (nextBlock w).1
      else if i = 2 * k.val + 1 then (nextBlock w).2 else w.Pv[i] := by
  simp only [stepP, Vector.getElem_set]
  split_ifs <;> first | rfl | omega

@[simp] theorem stepS_Pv : (stepS b w j).Pv = w.Pv := rfl
@[simp] theorem stepS_L : (stepS b w j).L = (nextBlock w).1 := rfl
@[simp] theorem stepS_R : (stepS b w j).R = (nextBlock w).2 := rfl

/-- Step 4 stores the new block in words `2j` and `2j + 1` of box `b` and leaves the other words and boxes (R71). -/
theorem stepS_Sv (c i : Nat) (hc : c < 4) (h : i < 256) :
    ((stepS b w j).Sv[c])[i] = if c = b.val ∧ i = 2 * j.val then (nextBlock w).1
      else if c = b.val ∧ i = 2 * j.val + 1 then (nextBlock w).2 else (w.Sv[c])[i] := by
  simp only [stepS]
  by_cases hcb : c = b.val
  · subst hcb
    simp only [Fin.getElem_fin, Vector.getElem_set_self, Vector.getElem_set, true_and]
    split_ifs <;> first | rfl | omega
  · simp only [Fin.getElem_fin, Vector.getElem_set_ne _ _ (Ne.symm hcb), hcb, false_and, if_false]

/-- `Schedule` is the four steps in order (R71). -/
theorem schedule_eq : schedule K n =
    ((replaceS (replaceP (scheduleStart K n))).Pv, (replaceS (replaceP (scheduleStart K n))).Sv) := by
  unfold schedule
  rfl

/-- KEYINIT with a key (R70). -/
theorem execKeyinit_of_key {s : State} (h : s.KEYLEN ≠ 0) :
    execKeyinit s = .next (clearError (eraseKey (installTables (schedule (keyBytes s) s.KEYLEN.val).1
      (schedule (keyBytes s) s.KEYLEN.val).2 s))) := by
  simp [execKeyinit, h]

end

end Sys2Proof.Machine
end

