-- ==== Sys2Proof/Machine/Script.lean ====
section
/-! DEFINITION. The host side: the notation for host programs and its pseudo-lines (30_encoding.md R58, R59), run
one transaction at a time through `step`. Log 17. -/

namespace Sys2Proof.Machine

/-- A script line (R58) or pseudo-line (R59). A line whose name ends in `eq` states the value that is read. -/
inductive ScriptLine where
  | WR (r : Reg) (w : Word)
  | RD (r : Reg)
  | RDeq (r : Reg) (w : Word)
  | WB (sp : ByteSpace) (off : Nat) (v : Byte)
  | RB (sp : ByteSpace) (off : Nat)
  | RBeq (sp : ByteSpace) (off : Nat) (v : Byte)
  | RESET
  | CMD (i : Instr)
  | KEY (h : List Byte)
  | MSG (h : List Byte)
  | BLK (h0 h1 h2 h3 h4 h5 h6 h7 : Byte)
  | OUTeq (h : List Byte)
  | LOOPBACK
  | OK
deriving DecidableEq, Repr

/-- The number of bytes of a byte space (R30). -/
def spaceSize (b : BufBytes) : ByteSpace → Nat
  | .KEYBUF => 72
  | .IBUF => b.bytes
  | .OBUF => b.bytes

/-- The bounds R58 and R59 put on a line: offsets inside their space, 1 to 72 key bytes, a message that fits. -/
def ScriptLine.wf (b : BufBytes) : ScriptLine → Bool
  | .WR _ _ => true
  | .RD _ => true
  | .RDeq _ _ => true
  | .WB sp off _ => off < spaceSize b sp
  | .RB sp off => off < spaceSize b sp
  | .RBeq sp off _ => off < spaceSize b sp
  | .RESET => true
  | .CMD _ => true
  | .KEY h => 1 ≤ h.length && h.length ≤ 72
  | .MSG h => h.length ≤ b.bytes
  | .BLK _ _ _ _ _ _ _ _ => true
  | .OUTeq h => h.length ≤ b.bytes
  | .LOOPBACK => true
  | .OK => true

/-- The host issues one event, ahead of anything else it has to do, and the engine performs it. -/
def issue (e : HostEvent) (s : State) : Option State :=
  match step { s with pending := e :: s.pending } with
  | .next t => some t
  | .fault _ => none
  | .refused _ => none

/-- Go on only if the latest response is the one stated. -/
def expect (r : Response) (s : State) : Option State := if s.response = some r then some s else none

/-- The transaction of a `WR`, `RD`, `WB`, `RB` line (R58). -/
def issueAt (addr : FlatAddr) (a : Access) (s : State) : Option State := issue (.transaction ⟨addr, a⟩) s

/-- `WB space+off, v` for the bytes of a list, from `off` upwards (R59: `KEY`, `MSG`). -/
def writeSpace (sp : ByteSpace) : Nat → List Byte → State → Option State
  | _, [], s => some s
  | off, v :: vs, s => do
    let s ← issueAt (spaceAddr sp off) (.write8 v) s
    let s ← expect .okay s
    writeSpace sp (off + 1) vs s

/-- `RB OBUF+off == v` for the bytes of a list, from `off` upwards (R59: `OUT ==`). -/
def compareOutput : Nat → List Byte → State → Option State
  | _, [], s => some s
  | off, v :: vs, s => do
    let s ← issueAt (spaceAddr .OBUF off) .read8 s
    let s ← expect (.okay8 v) s
    compareOutput (off + 1) vs s

/-- `RB OBUF+t` giving v, `WB IBUF+t, v`, for `todo` values of t from `t` upwards (R59: `LOOPBACK`). -/
def copyBack : Nat → Nat → State → Option State
  | 0, _, s => some s
  | todo + 1, t, s => do
    let s ← issueAt (spaceAddr .OBUF t) .read8 s
    match s.response with
    | some (.okay8 v) => do
      let s ← issueAt (spaceAddr .IBUF t) (.write8 v) s
      copyBack todo (t + 1) s
    | _ => none

/-- Run one line. `none`: a stated value is not the one read, or a transaction got ERROR. -/
def runLine (l : ScriptLine) (s : State) : Option State :=
  match l with
  | .WR r w => do expect .okay (← issueAt (regAddr r) (.write32 w) s)
  | .RD r => issueAt (regAddr r) .read32 s
  | .RDeq r w => do expect (.okay32 w) (← issueAt (regAddr r) .read32 s)
  | .WB sp off v => do expect .okay (← issueAt (spaceAddr sp off) (.write8 v) s)
  | .RB sp off => issueAt (spaceAddr sp off) .read8 s
  | .RBeq sp off v => do expect (.okay8 v) (← issueAt (spaceAddr sp off) .read8 s)
  | .RESET => issue .reset s
  | .CMD i => do expect .okay (← issue (writeCmd (encode i)) s)
  | .KEY h => do
    let s ← writeSpace .KEYBUF 0 h s
    expect .okay (← issueAt (regAddr .KEYLEN) (.write32 (BitVec.ofNat 32 h.length)) s)
  | .MSG h => do
    let s ← writeSpace .IBUF 0 h s
    expect .okay (← issueAt (regAddr .ILEN) (.write32 (BitVec.ofNat 32 h.length)) s)
  | .BLK h0 h1 h2 h3 h4 h5 h6 h7 => do
    let s ← expect .okay (← issueAt (regAddr .DL) (.write32 (be32 h0 h1 h2 h3)) s)
    expect .okay (← issueAt (regAddr .DR) (.write32 (be32 h4 h5 h6 h7)) s)
  | .OUTeq h => do
    let s ← expect (.okay32 (BitVec.ofNat 32 h.length)) (← issueAt (regAddr .OLEN) .read32 s)
    compareOutput 0 h s
  | .LOOPBACK => do
    let s ← issueAt (regAddr .OLEN) .read32 s
    match s.response with
    | some (.okay32 m) => do
      let s ← copyBack m.toNat 0 s
      expect .okay (← issueAt (regAddr .ILEN) (.write32 m) s)
    | _ => none
  | .OK => do
    let s ← issueAt (regAddr .STATUS) .read32 s
    match s.response with
    | some (.okay32 v) => if v.extractLsb' 4 4 = 0 then some s else none
    | _ => none

/-- Run a script, one line after another, top to bottom (R58). -/
def runScript : List ScriptLine → State → Option State
  | [], s => some s
  | l :: ls, s => do runScript ls (← runLine l s)

end Sys2Proof.Machine
end

