-- ==== Sys2Proof/Tests/Slice0.lean ====
section
/-! SUPPORT. The tests: ill-formed terms are refused, words and transactions decode as the spec writes them out, the
spec's own examples of every operation, and for every obligation with hypotheses a witness that meets them. -/

namespace Sys2Proof.Tests

open Sys2Proof.Machine

/-! ### Small states -/

/-- A keyed engine with the constant tables as its tables, whose examples R85 and R80 give. -/
def keyed : State where
  P := pInit
  S := sInit
  KEYED := true
  ERR := .ok
  KEYBUF := Vector.replicate 72 0
  KEYLEN := 0
  DL := 0
  DR := 0
  IBUF := []
  ILEN := 0
  OBUF := []
  OLEN := 0
  bufBytes := Config.exampleBufBytes
  resets := 0
  pending := []
  response := none

/-- A message in the input buffer. -/
def withMessage (M : List Byte) : State :=
  { keyed with IBUF := Memory.writeBytes [] 0 M, ILEN := BitVec.ofNat 32 M.length }

/-- The smallest buffers (R5). -/
def smallest : BufBytes := ⟨8, by decide, by decide, by decide⟩

/-- The largest buffers (R5). -/
def largest : BufBytes := ⟨1048576, by decide, by decide, by decide⟩

/-- The engine with the one key byte `v`. -/
def withKey (v : Byte) : State := { keyed with KEYBUF := (Vector.replicate 72 0).set 0 v, KEYLEN := 1 }

/-- The host's next event. -/
def facing (e : HostEvent) : State := { keyed with pending := [e] }

/-- A read or write at a flat address. -/
def at' (addr : Nat) (a : Access) : HostEvent := .transaction ⟨BitVec.ofNat 22 addr, a⟩

/-- What is seen of the state after a command. -/
def after (i : Instr) (s : State) {α : Type} (see : State → α) : Option α :=
  match exec i s with
  | .next t => some (see t)
  | .fault _ => none
  | .refused _ => none

/-- What is seen of the state after a step. -/
def afterStep (s : State) {α : Type} (see : State → α) : Option α :=
  match step s with
  | .next t => some (see t)
  | .fault _ => none
  | .refused _ => none

/-! ### Well-formedness and decoding -/

theorem test_wf_refuses_reserved_bits : FormatC.wf ⟨1, 0x02⟩ = false := by decide
theorem test_wf_refuses_opcode_zero : FormatC.wf ⟨0, 0x00⟩ = false := by decide
theorem test_wf_refuses_opcode_six : FormatC.wf ⟨0, 0x06⟩ = false := by decide
theorem test_wf_accepts_the_commands : ∀ i : Instr, i.wf = true := by intro i; cases i <;> rfl

/-- R50, R51, bit by bit: RSV (24 zeros), then OP. -/
theorem test_decode_keyinit : decode 0b00000000000000000000000000000001#32 = .ok .keyinit := by rfl
theorem test_decode_encb : decode 0b00000000000000000000000000000010#32 = .ok .encb := by rfl
theorem test_decode_decb : decode 0b00000000000000000000000000000011#32 = .ok .decb := by rfl
theorem test_decode_encm : decode 0b00000000000000000000000000000100#32 = .ok .encm := by rfl
theorem test_decode_decm : decode 0b00000000000000000000000000000101#32 = .ok .decm := by rfl

/-- R52: a reserved bit set, an opcode with no command, the zero word. -/
theorem test_decode_refuses :
    decode 0x80000001#32 = .error (.reservedBits 0x800000) ∧ decode 0x00000006#32 = .error (.noSuchOpcode 0x06) ∧
    decode 0#32 = .error (.noSuchOpcode 0) := ⟨rfl, rfl, rfl⟩

theorem test_tableWord_keeps_all_32_bits : tableWord 32 0xFFFFFFFF = 0xFFFFFFFF#32 := by decide

/-- R31: the first and the last address of every range, and the holes beside them. -/
theorem test_flat_map_edges :
    targetOf smallest 0x00001F#22 = .reg 0x1F ∧ targetOf smallest 0x000020#22 = .unmapped ∧
    targetOf smallest 0x0000FF#22 = .unmapped ∧ targetOf smallest 0x000100#22 = .keybuf 0 ∧
    targetOf smallest 0x000147#22 = .keybuf 71 ∧ targetOf smallest 0x000148#22 = .unmapped ∧
    targetOf smallest 0x0FFFFF#22 = .unmapped ∧ targetOf smallest 0x100000#22 = .ibuf 0 ∧
    targetOf smallest 0x100007#22 = .ibuf 7 ∧ targetOf smallest 0x100008#22 = .unmapped ∧
    targetOf largest 0x1FFFFF#22 = .ibuf 0xFFFFF ∧ targetOf largest 0x200000#22 = .obuf 0 ∧
    targetOf largest 0x2FFFFF#22 = .obuf 0xFFFFF ∧ targetOf largest 0x300000#22 = .unmapped ∧
    targetOf largest 0x3FFFFF#22 = .unmapped := ⟨rfl, rfl, rfl, rfl, rfl, rfl, rfl, rfl, rfl, rfl, rfl, rfl, rfl, rfl, rfl⟩

/-- R34: a byte access to a register, a word access to a byte, a misaligned word, other widths. -/
theorem test_illegal_transactions :
    portOp smallest ⟨0x000000#22, .read8⟩ = none ∧ portOp smallest ⟨0x000100#22, .read32⟩ = none ∧
    portOp smallest ⟨0x000002#22, .read32⟩ = none ∧ portOp smallest ⟨0x00001C#22, .write32 0⟩ = none ∧
    portOp smallest ⟨0x100000#22, .write32 0⟩ = none ∧ portOp smallest ⟨0x000004#22, .readOther 16⟩ = none := ⟨rfl, rfl, rfl, rfl, rfl, rfl⟩

/-! ### The constants and the functions -/

/-- R67, R68: the first and the last word of every table. -/
theorem test_constant_tables :
    pInit[0] = 0x243F6A88#32 ∧ pInit[17] = 0x8979FB1B#32 ∧ sInit[0][0] = 0xD1310BA6#32 ∧
    sInit[1][0] = 0x4B7A70E9#32 ∧ sInit[2][0] = 0xE93D5A68#32 ∧ sInit[3][0] = 0x3A39CE37#32 ∧
    sInit[3][255] = 0x3AC372E6#32 := by decide +kernel

/-- R80's example. -/
theorem test_F_of_zero : F sInit 0x00000000#32 = 0x2FCFF51E#32 := by decide +kernel

/-- 95_test_vectors.md 3.1, F3: four different index bytes. -/
theorem test_F_of_four_bytes : F sInit 0x01020304#32 = 0x3CEDFF8C#32 := by decide +kernel

/-- R56's example, a key of three bytes. -/
theorem test_keyWord_of_three_bytes :
    (keyWord [1, 2, 3] 3 0, keyWord [1, 2, 3] 3 1, keyWord [1, 2, 3] 3 2, keyWord [1, 2, 3] 3 3) =
      (0x01020301#32, 0x02030102#32, 0x03010203#32, 0x01020301#32) := by decide

/-- R55: the byte order of a block. -/
theorem test_parse_byte_order : parse 1 2 3 4 5 6 7 8 = (0x01020304#32, 0x05060708#32) := by decide

/-- R91, R92: no padding of a whole block, zeros behind a partial one; stripping crosses blocks. -/
theorem test_pad : pad [1, 2, 3, 4, 5, 6, 7, 8] = [1, 2, 3, 4, 5, 6, 7, 8] ∧ pad [1] = [1, 0, 0, 0, 0, 0, 0, 0] := by
  decide
theorem test_stripLen : stripLen [1, 0, 2, 0, 0, 0, 0, 0, 0, 0] 10 = 3 ∧ stripLen [0, 0] 2 = 0 := by decide

/-- The tables that are all zero, over which `EncBlock` only exchanges the halves (R85: 17 swaps, F gives 0). -/
def zeroTables (L R : Word) : Working := ⟨Vector.replicate 18 0, Vector.replicate 4 (Vector.replicate 256 0), L, R⟩

/-- R71: the left word into the even index, the right word into the odd one, in the right box; the block runs on. -/
theorem test_schedule_stores :
    (let w := stepP (zeroTables 1 2) 8
     (w.Pv[16], w.Pv[17], w.Pv[15], w.L, w.R) = (2, 1, 0, 2, 1)) ∧
    (let w := stepS 3 (zeroTables 1 2) 127
     (w.Sv[3][254], w.Sv[3][255], w.Sv[3][253], w.Sv[2][254], w.L, w.R) = (2, 1, 0, 0, 2, 1)) := by decide +kernel

/-! ### The commands -/

/-- R73: the empty key. -/
theorem test_keyinit_without_key :
    after .keyinit keyed (fun t => (t.ERR, t.KEYED, t.KEYLEN)) = some (.invalidKey, true, 0) := rfl

/-- R74: the key is gone, the engine keyed. -/
theorem test_keyinit_erases_the_key :
    after .keyinit { withKey 0x61 with KEYED := false } (fun t => (t.ERR, t.KEYED, t.KEYBUF[0], t.KEYLEN)) =
      some (.ok, true, 0, 0) := rfl

/-- R88 with R85's example. -/
theorem test_encb_of_zero :
    after .encb keyed (fun t => (t.DL, t.DR, t.ERR)) = some (0x706D9FCC#32, 0x1792D23A#32, .ok) := by decide +kernel
theorem test_encb_unkeyed :
    after .encb { keyed with KEYED := false, DL := 5 } (fun t => (t.DL, t.DR, t.ERR)) = some (5, 0, .notKeyed) := rfl

/-- R89 with the example of 95_test_vectors.md 3.2. -/
theorem test_decb_of_zero :
    after .decb keyed (fun t => (t.DL, t.DR, t.ERR)) = some (0x3E6C275D#32, 0x20C8AB5A#32, .ok) := by
  decide +kernel
theorem test_decb_unkeyed :
    after .decb { keyed with KEYED := false } (fun t => t.ERR) = some .notKeyed := rfl

/-- R95: five bytes are padded to one block, here R85's zero block; `OLEN` is the padded length. -/
theorem test_encm_pads :
    after .encm (withMessage [0, 0, 0, 0, 0]) (fun t => (outputBytes t 8, t.OLEN, t.ERR)) =
      some ([0x70, 0x6D, 0x9F, 0xCC, 0x17, 0x92, 0xD2, 0x3A], 8, .ok) := by decide +kernel
theorem test_encm_too_long :
    after .encm { keyed with bufBytes := smallest, ILEN := 0xFFFFFFFF } (fun t => (t.OLEN, t.ERR)) =
      some (0, .length) := rfl

/-- R96: all eight decrypted bytes are zero, so all are stripped. -/
theorem test_decm_strips :
    after .decm (withMessage [0x70, 0x6D, 0x9F, 0xCC, 0x17, 0x92, 0xD2, 0x3A])
      (fun t => (outputBytes t 8, t.OLEN, t.ERR)) = some ([0, 0, 0, 0, 0, 0, 0, 0], 0, .ok) := by decide +kernel

/-- R115's example: `ILEN = BUF_BYTES + 4` is TRUNCATED_BLOCK, `BUF_BYTES + 8` is LENGTH. -/
theorem test_decm_priority :
    after .decm { keyed with ILEN := 4100 } (fun t => t.ERR) = some .truncatedBlock ∧
    after .decm { keyed with ILEN := 4104 } (fun t => t.ERR) = some .length := ⟨rfl, rfl⟩

/-! ### Steps and scripts -/

/-- R132: straight after reset nothing but an error comes of any command. -/
theorem test_commands_after_reset :
    afterStep (State.reset.withFetchWord 32 1) (fun t => (t.ERR, t.response)) = some (.invalidKey, some .okay) ∧
    afterStep (State.reset.withFetchWord 32 2) (fun t => (t.ERR, t.response)) = some (.notKeyed, some .okay) ∧
    afterStep (State.reset.withFetchWord 32 3) (fun t => (t.ERR, t.response)) = some (.notKeyed, some .okay) ∧
    afterStep (State.reset.withFetchWord 32 4) (fun t => (t.ERR, t.response)) = some (.notKeyed, some .okay) ∧
    afterStep (State.reset.withFetchWord 32 5) (fun t => (t.ERR, t.response)) = some (.notKeyed, some .okay) :=
  ⟨rfl, rfl, rfl, rfl, rfl⟩

/-- R20: 73 is stored as 72. -/
theorem test_keylen_saturates :
    (runScript [.WR .KEYLEN 73, .RDeq .KEYLEN 72] keyed).isSome = true := rfl

/-- R15: a key byte is stored and reads 0. -/
theorem test_keybuf_reads_zero :
    ((runScript [.WB .KEYBUF 71 0xAB, .RBeq .KEYBUF 71 0] keyed).map fun t => t.KEYBUF[71]) = some 0xAB := rfl

/-- R16: a host write of `OBUF` is ignored; R30: a byte of `IBUF` reads back. -/
theorem test_buffers :
    ((runScript [.WB .IBUF 4095 7, .RBeq .IBUF 4095 7, .WB .OBUF 0 9] keyed).map fun t => (t.IBUF, t.OBUF)) =
      some ([(4095, 7)], []) := rfl

/-- R59, R100: MSG, CMD ENCM, LOOPBACK, CMD DECM, OUT of the empty message, and the key of one byte. -/
theorem test_pseudo_lines :
    (runScript [.MSG [], .CMD .encm, .OK, .LOOPBACK, .CMD .decm, .OUTeq []] keyed).isSome = true ∧
    ((runScript [.KEY [0x61], .BLK 1 2 3 4 5 6 7 8] keyed).map fun t => (t.KEYLEN, t.KEYBUF[0], t.DL, t.DR)) =
      some (1, 0x61, 0x01020304#32, 0x05060708#32) := ⟨rfl, rfl⟩

/-! ### Witnesses: for every obligation with hypotheses, a state and operands that meet all of them -/

/-- A keyed engine whose next step runs the command `i`. -/
def running (i : Instr) : State := { facing (at' 0x000000 (.write32 (encode i))) with DL := 1, DR := 2, KEYLEN := 1 }

/-- Two equal blocks as the message. -/
def twoBlocks : State := withMessage [1, 2, 3, 4, 5, 6, 7, 8, 1, 2, 3, 4, 5, 6, 7, 8]

/-- A message that is no multiple of 8 and ends in a byte other than 0. -/
def shortMessage : State := withMessage [1, 0, 2]

theorem exec_answers (i : Instr) (s : State) : ∃ t, exec i s = .next t := by
  cases i <;> simp only [exec, execKeyinit, execEncb, execDecb, execEncm, execDecm] <;> split_ifs <;> exact ⟨_, rfl⟩

/-- A word that decodes. -/
theorem witness_CommandWordSelectsExactlyItsCommand : ∃ i, decode 0x00000005#32 = .ok i := ⟨.decm, rfl⟩

theorem witness_StepRunsDecodedCommand :
    ∃ (s : State) (w : Word) (rest : List HostEvent) (i : Instr),
      s.pending = .transaction ⟨0x000000#22, .write32 w⟩ :: rest ∧ decode w = .ok i :=
  ⟨running .encb, 2, [], .encb, rfl, rfl⟩

theorem witness_FetchedWordRuns : ∃ nbits w i, decodeTableWord nbits w = some i := ⟨32, 5, .decm, rfl⟩

/-- A step that runs a command, one that resets, one that idles. -/
theorem witness_StepTakesOneEventInOrder :
    (∃ s t, step s = .next t ∧ s.pending = [at' 0x000000 (.write32 2)] ∧ t.DL ≠ s.DL) ∧
    (∃ s t, step s = .next t ∧ s.pending.head? = some .reset) ∧ ∃ s t, step s = .next t ∧ s.pending = [] := by
  refine ⟨⟨facing (at' 0x000000 (.write32 2)), _, rfl, rfl, ?_⟩, ⟨facing .reset, _, rfl, rfl⟩, ⟨keyed, _, rfl, rfl⟩⟩
  decide +kernel

/-- Every read and every write clause of RegisterSpace, the empty offset 0x1C too. -/
theorem witness_RegisterSpace : ∀ off ∈ [0x00, 0x04, 0x08, 0x0C, 0x10, 0x14, 0x18, 0x1C], ∀ v : Word,
    (∃ (s : State) (rest : List HostEvent), s.pending = .transaction ⟨BitVec.ofNat 22 off, .read32⟩ :: rest) ∧
    ∃ (s : State) (rest : List HostEvent), s.pending = .transaction ⟨BitVec.ofNat 22 off, .write32 v⟩ :: rest :=
  fun off _ v => ⟨⟨facing (at' off .read32), [], rfl⟩, ⟨facing (at' off (.write32 v)), [], rfl⟩⟩

/-- 72, stored as it is, and 73 and the largest word, which saturate. -/
theorem witness_KeylenSaturates : ∀ v ∈ [(72 : Word), 73, 0xFFFFFFFF], ∃ (s : State) (rest : List HostEvent),
    s.pending = .transaction ⟨0x000008#22, .write32 v⟩ :: .transaction ⟨0x000008#22, .read32⟩ :: rest :=
  fun v _ => ⟨{ keyed with pending := [at' 8 (.write32 v), at' 8 .read32] }, [], rfl⟩

/-- The first and last byte of each space, read and written. -/
theorem witness_ByteSpaces : ∀ a ∈ [Access.read8, .write8 0xAB],
    (∀ i ∈ [(0 : Fin 72), 71], ∃ (s : State) (rest : List HostEvent),
      s.pending = .transaction ⟨BitVec.ofNat 22 (0x000100 + i.val), a⟩ :: rest) ∧
    (∀ off ∈ [0, 4095], ∃ (s : State) (rest : List HostEvent), off < s.bufBytes.bytes ∧
      s.pending = .transaction ⟨BitVec.ofNat 22 (0x100000 + off), a⟩ :: rest) ∧
    (∀ off ∈ [0, 4095], ∃ (s : State) (rest : List HostEvent), off < s.bufBytes.bytes ∧
      s.pending = .transaction ⟨BitVec.ofNat 22 (0x200000 + off), a⟩ :: rest) := by
  have fits : ∀ off ∈ [0, 4095], off < Config.exampleBufBytes.bytes := by decide
  exact fun a _ => ⟨fun i _ => ⟨facing (at' (0x100 + i.val) a), [], rfl⟩,
    fun off h => ⟨facing (at' (0x100000 + off) a), [], fits off h, rfl⟩,
    fun off h => ⟨facing (at' (0x200000 + off) a), [], fits off h, rfl⟩⟩

/-- A legal transaction at the last byte of a buffer, and illegal ones just past it and by the wrong width. -/
theorem witness_LegalGetsOkayIllegalGetsError :
    (∃ s t rest, State.pending s = .transaction t :: rest ∧ LegalTransaction s.bufBytes t) ∧
    (∃ s t rest, State.pending s = .transaction t :: rest ∧ t.access = .read8 ∧ ¬LegalTransaction s.bufBytes t) ∧
    ∃ s t rest, State.pending s = .transaction t :: rest ∧ t.addr = 0 ∧ ¬LegalTransaction s.bufBytes t :=
  ⟨⟨facing (at' 0x100FFF .read8), ⟨0x100FFF#22, .read8⟩, [], rfl, by unfold LegalTransaction; decide⟩,
   ⟨facing (at' 0x101000 .read8), ⟨0x101000#22, .read8⟩, [], rfl, rfl, by unfold LegalTransaction; decide⟩,
   ⟨facing (at' 0 .read8), ⟨0#22, .read8⟩, [], rfl, rfl, by unfold LegalTransaction; decide⟩⟩

theorem witness_ReadsHaveNoSideEffect :
    ∃ s t rest, State.pending s = .transaction t :: rest ∧ t.access.isRead = true :=
  ⟨facing (at' 0x100005 .read8), ⟨0x100005#22, .read8⟩, [], rfl, rfl⟩

/-- The zero word, the first word past the commands, and a command with a reserved bit set. -/
theorem witness_ReservedWordRaisesIllegalCmd : ∀ w ∈ [(0 : Word), 6, 0x80000001], ∃ (s : State) (rest : List HostEvent),
    s.pending = writeCmd w :: rest ∧ (w.toNat = 0 ∨ 6 ≤ w.toNat) := by
  intro w hw
  refine ⟨facing (writeCmd w), [], rfl, ?_⟩
  simp only [List.mem_cons, List.not_mem_nil, or_false] at hw
  rcases hw with rfl | rfl | rfl <;> decide

/-- Each of the six codes of ErrorPriority is the result somewhere. -/
theorem witness_ErrorPriority :
    (∀ w, ∃ (s : State) (rest : List HostEvent), s.pending = writeCmd w :: rest) ∧
    resultCode 6 keyed = .illegalCmd ∧ resultCode 1 keyed = .invalidKey ∧
    resultCode 5 { keyed with KEYED := false, ILEN := 12 } = .notKeyed ∧
    resultCode 5 { keyed with ILEN := 4100 } = .truncatedBlock ∧ resultCode 5 { keyed with ILEN := 4104 } = .length ∧
    resultCode 4 { keyed with ILEN := 4097 } = .length ∧ resultCode 4 { keyed with ILEN := 4096 } = .ok ∧
    resultCode 2 keyed = .ok :=
  ⟨fun w => ⟨facing (writeCmd w), [], rfl⟩, rfl, rfl, rfl, rfl, rfl, rfl, rfl, rfl⟩

theorem witness_ErrorChangesOnlyErr :
    (∃ i s t, exec i s = .next t ∧ t.ERR ≠ .ok) ∧
    ∃ s t w rest, State.pending s = writeCmd w :: rest ∧ step s = .next t ∧ t.ERR ≠ .ok :=
  ⟨⟨.decm, { keyed with ILEN := 12 }, _, rfl, by decide⟩,
   ⟨{ facing (writeCmd 5) with ILEN := 12 }, _, 5, [], rfl, rfl, by decide⟩⟩

/-- A step that changes `ERR`, one that changes `KEYED` from 1 to 0. -/
theorem witness_StatusChangesOnlyByCommandOrReset :
    (∃ s t, step s = .next t ∧ (t.KEYED ≠ s.KEYED ∨ t.ERR ≠ s.ERR)) ∧
    ∃ s t, step s = .next t ∧ s.KEYED = true ∧ t.KEYED = false :=
  ⟨⟨facing (writeCmd 6), _, rfl, .inr (by decide)⟩, ⟨facing .reset, _, rfl, rfl, rfl⟩⟩

theorem witness_KeyinitBuildsCipher : (withKey 0x61).KEYLEN ≠ 0 ∧ keyed.KEYLEN = 0 := ⟨by decide, rfl⟩

theorem witness_EmptyKeyRefused : ∃ (s : State) (rest : List HostEvent),
    s.pending = .transaction ⟨0x000000#22, .write32 0x00000001#32⟩ :: rest ∧ s.KEYLEN = 0 :=
  ⟨facing (writeCmd 1), [], rfl, rfl⟩

/-- A KEYINIT that completes and one that raises its error. -/
theorem witness_SecondKeyinitNeedsAKey :
    (∃ s t : State, exec .keyinit s = .next t ∧ t.ERR = .ok ∧ s.KEYLEN ≠ 0) ∧
    ∃ s t : State, exec .keyinit s = .next t ∧ t.ERR ≠ .ok :=
  ⟨⟨withKey 0x61, _, execKeyinit_of_key (by decide), rfl, by decide⟩, ⟨keyed, _, rfl, by decide⟩⟩

theorem witness_RekeyingIgnoresOldTables : ∃ s : State, s.KEYLEN ≠ 0 ∧ s.KEYED = true ∧ s.P = pInit :=
  ⟨withKey 0x61, by decide, rfl, rfl⟩

theorem witness_KeyWordCyclicBigEndian : ∃ K : List Byte, 1 ≤ K.length ∧ K ≠ [0] := ⟨[1, 2, 3], by decide, by decide⟩

theorem witness_ScheduleIsTheEncryptionChain : ∃ (K : List Byte) (n : Nat), 1 ≤ n ∧ n = K.length :=
  ⟨[0x61, 0x62], 2, by decide, rfl⟩

/-- The key of one zero byte and the key of eight (R76 (c)). -/
theorem witness_PeriodicKeySameSchedule : ∃ (K K' : List Byte) (m : Nat),
    1 ≤ K.length ∧ 1 ≤ m ∧ K'.length = m * K.length ∧ m ≠ 1 ∧
    ∀ k, k < K'.length → K'.getD k 0 = K.getD (k % K.length) 0 :=
  ⟨[7, 9], [7, 9, 7, 9, 7, 9], 3, by decide, by decide, by decide, by decide, by decide⟩

/-- Two keys of 73 bytes that differ in the last. -/
theorem witness_LongKeySameSchedule : ∃ K K' : List Byte,
    72 ≤ K.length ∧ 72 ≤ K'.length ∧ K.take 72 = K'.take 72 ∧ K ≠ K' :=
  ⟨List.replicate 72 1 ++ [2], List.replicate 72 1 ++ [3], by decide, by decide, by decide, by decide⟩

/-- Keyed and unkeyed, for ENCB and DECB. -/
theorem witness_EncbEncryptsBlock_DecbDecryptsBlock :
    keyed.KEYED = true ∧ { keyed with KEYED := false }.KEYED = false := ⟨rfl, rfl⟩

/-- Lengths on each side of a multiple of 8. -/
theorem witness_PaddingIsZeroToMultipleOfEight :
    (∃ (M : List Byte) (k : Nat), M.length ≤ k ∧ k < (pad M).length) ∧ (∃ M : List Byte, M.length % 8 = 0 ∧ M ≠ []) ∧
    (∃ M : List Byte, M.length % 8 = 1) ∧ ∃ M : List Byte, M.length % 8 = 7 :=
  ⟨⟨[1], 7, by decide, by decide⟩, ⟨[1, 2, 3, 4, 5, 6, 7, 8], by decide, by decide⟩, ⟨[1], rfl⟩,
   ⟨[1, 2, 3, 4, 5, 6, 7], rfl⟩⟩

theorem witness_StripLenIsSmallest : ∃ (B : List Byte) (n : Nat), n ≤ B.length ∧ stripLen B n = 1 ∧ n = 3 :=
  ⟨[5, 0, 0], 3, by decide, by decide, rfl⟩

/-- The success and the two errors, the length at the capacity and one past it. -/
theorem witness_EncmEncryptsMessage :
    (∃ s : State, s.KEYED = true ∧ pad8 s.ILEN.toNat ≤ s.bufBytes.bytes ∧ s.ILEN.toNat = 3) ∧
    (∃ s : State, s.KEYED = true ∧ pad8 s.ILEN.toNat ≤ s.bufBytes.bytes ∧ s.ILEN.toNat = s.bufBytes.bytes) ∧
    (∃ s : State, s.KEYED = false) ∧
    ∃ s : State, s.KEYED = true ∧ s.bufBytes.bytes < pad8 s.ILEN.toNat ∧ s.ILEN.toNat = s.bufBytes.bytes + 1 :=
  ⟨⟨shortMessage, rfl, by decide, rfl⟩, ⟨{ keyed with ILEN := 4096 }, rfl, by decide, rfl⟩, ⟨State.reset, rfl⟩,
   ⟨{ keyed with ILEN := 4097 }, rfl, by decide, rfl⟩⟩

/-- The success with bytes left after stripping is a state with two blocks; the three errors. -/
theorem witness_DecmDecryptsMessage :
    (∃ s : State, s.KEYED = true ∧ s.ILEN.toNat % 8 = 0 ∧ s.ILEN.toNat ≤ s.bufBytes.bytes ∧ s.ILEN.toNat = 16) ∧
    (∃ s : State, s.KEYED = false) ∧ (∃ s : State, s.KEYED = true ∧ s.ILEN.toNat % 8 ≠ 0) ∧
    ∃ s : State, s.KEYED = true ∧ s.ILEN.toNat % 8 = 0 ∧ s.bufBytes.bytes < s.ILEN.toNat :=
  ⟨⟨twoBlocks, rfl, by decide, by decide, rfl⟩, ⟨State.reset, rfl⟩, ⟨{ keyed with ILEN := 4095 }, rfl, by decide⟩,
   ⟨{ keyed with ILEN := 4104 }, rfl, by decide, by decide⟩⟩

theorem witness_EmptyMessage : ∃ s : State, s.KEYED = true ∧ s.ILEN = 0 := ⟨keyed, rfl, rfl⟩

/-- Block 0 and block 1 of one message are equal; both commands complete without error. -/
theorem witness_EqualBlocksTransformEqually : ∃ s : State, s.KEYED = true ∧
    (∃ t, exec .encm s = .next t ∧ t.ERR = .ok ∧ 8 * 0 < t.OLEN.toNat ∧ 8 * 1 < t.OLEN.toNat ∧
      blockAt (paddedByte s) 0 = blockAt (paddedByte s) 1) ∧
    ∃ t, exec .decm s = .next t ∧ t.ERR = .ok ∧ 8 * 0 < s.ILEN.toNat ∧ 8 * 1 < s.ILEN.toNat ∧
      blockAt (ibufByte s) 0 = blockAt (ibufByte s) 1 :=
  ⟨twoBlocks, rfl, ⟨_, rfl, rfl, by decide, by decide, rfl⟩, ⟨_, rfl, rfl, by decide, by decide, rfl⟩⟩

theorem witness_MessageMayBeCutAtMultiplesOfEight : ∃ A B : List Byte, A.length % 8 = 0 ∧ A ≠ [] ∧ B.length = 1 :=
  ⟨[1, 2, 3, 4, 5, 6, 7, 8], [9], by decide, by decide, rfl⟩

/-- Just past the capacity, the first multiple of 8 past it, the largest `ILEN` (its
padded length would wrap in 32 bits, R7) and the largest multiple of 8, and exactly the capacity. -/
theorem witness_TooLongMessageIsRefused :
    (∃ s : State, s.KEYED = true ∧ s.bufBytes.bytes < s.ILEN.toNat ∧ s.ILEN.toNat % 8 ≠ 0 ∧ s.ILEN.toNat = 4097) ∧
    (∃ s : State, s.KEYED = true ∧ s.bufBytes.bytes < s.ILEN.toNat ∧ s.ILEN.toNat % 8 = 0 ∧ s.ILEN.toNat = 4104) ∧
    (∃ s : State, s.KEYED = true ∧ s.bufBytes.bytes < s.ILEN.toNat ∧ s.ILEN.toNat % 8 ≠ 0 ∧
      s.ILEN.toNat = 2 ^ 32 - 1) ∧
    (∃ s : State, s.KEYED = true ∧ s.bufBytes.bytes < s.ILEN.toNat ∧ s.ILEN.toNat % 8 = 0 ∧
      s.ILEN.toNat = 2 ^ 32 - 8) ∧
    ∃ s : State, s.KEYED = true ∧ s.ILEN.toNat ≤ s.bufBytes.bytes ∧ s.ILEN.toNat % 8 = 0 ∧ s.ILEN.toNat = 4096 :=
  ⟨⟨{ keyed with ILEN := 4097 }, rfl, by decide, by decide, rfl⟩,
   ⟨{ keyed with ILEN := 4104 }, rfl, by decide, by decide, rfl⟩,
   ⟨{ keyed with ILEN := 0xFFFFFFFF }, rfl, by decide, by decide, rfl⟩,
   ⟨{ keyed with ILEN := 0xFFFFFFF8 }, rfl, by decide, by decide, rfl⟩,
   ⟨{ keyed with ILEN := 4096 }, rfl, by decide, by decide, rfl⟩⟩

theorem witness_MessageRoundTrip : ∃ s : State, s.KEYED = true ∧ pad8 s.ILEN.toNat ≤ s.bufBytes.bytes ∧
    s.ILEN.toNat = 3 ∧ ibufByte s (s.ILEN.toNat - 1) ≠ 0 :=
  ⟨shortMessage, rfl, by decide, rfl, by decide⟩

theorem witness_WrittenMessageHidesUnspecifiedBytes : ∃ s t i, InputWritten s ∧ exec i s = .next t ∧ s.ILEN = 16 :=
  let ⟨t, h⟩ := exec_answers .encm twoBlocks
  ⟨twoBlocks, t, .encm, by unfold InputWritten; decide, h, rfl⟩

/-- Every command answers. -/
theorem witness_CommandsWriteOnlyTheirElements : ∀ i : Instr, ∃ s t, exec i s = .next t ∧ s.KEYED = true :=
  fun i => let ⟨t, h⟩ := exec_answers i shortMessage; ⟨shortMessage, t, h, rfl⟩

/-- A KEYINIT step that changes `P` would have to be computed; a reset step of a state whose tables are not what reset
leaves is one too. -/
theorem witness_TablesChangeOnlyByKeyinitOrReset : ∃ s t : State, step s = .next t ∧ (t.P ≠ s.P ∨ t.S ≠ s.S) := by
  refine ⟨{ facing .reset with P := Vector.ofFn fun i => ~~~Config.unspecifiedP 1 i.val }, _, rfl, .inl ?_⟩
  intro h
  have h0 := congrArg (fun P : PArray => P[0]) h
  simp only [resetEngine, Engine.reset, Vector.getElem_ofFn] at h0
  have hb := congrArg (fun w : Word => w.getLsbD 0) h0
  simp [takeEvent, facing, keyed] at hb

/-- A host write of `IBUF`, and an ENCM that completes. -/
theorem witness_EachBufferHasOneWriter :
    (∃ s t : State, step s = .next t ∧ t.IBUF ≠ s.IBUF) ∧
    ∃ s t : State, step s = .next t ∧ (t.OBUF ≠ s.OBUF ∨ t.OLEN ≠ s.OLEN) :=
  ⟨⟨facing (at' 0x100000 (.write8 7)), _, rfl, by decide⟩,
   ⟨{ shortMessage with pending := [writeCmd 4] }, _, rfl, .inr (by decide)⟩⟩

/-- Two unkeyed states with different tables and a KEYINIT to run. -/
theorem witness_TablesInvisibleWhileUnkeyed : ∃ s t : State, SameButTables s t ∧ s.P ≠ t.P ∧ s.KEYED = false ∧
    s.KEYLEN ≠ 0 ∧ s.pending = [writeCmd 1] := by
  let s : State := { withKey 0x61 with KEYED := false, pending := [writeCmd 1], P := Vector.replicate 18 0 }
  exact ⟨s, { s with P := Vector.replicate 18 1 }, rfl, by decide, rfl, by decide, rfl⟩

theorem witness_TablesNeverReadThroughThePort : ∃ s t : State, SameButTables s t ∧ s.P ≠ t.P ∧ s.KEYED = true ∧
    ∀ w rest, s.pending ≠ .transaction ⟨0x000000#22, .write32 w⟩ :: rest := by
  let s : State := { facing (at' 0x000014 .read32) with P := Vector.replicate 18 0 }
  exact ⟨s, { s with P := Vector.replicate 18 1 }, rfl, by decide, rfl, by intro w rest h; simp [s, facing, at'] at h⟩

theorem witness_KeyBytesCannotBeReadBack : ∃ s t : State, SameButKeybuf s t ∧ s.KEYBUF ≠ t.KEYBUF ∧
    ∀ rest, s.pending ≠ .transaction ⟨0x000000#22, .write32 0x00000001#32⟩ :: rest := by
  let s : State := { withKey 0x61 with pending := [at' 0x000100 .read8] }
  exact ⟨s, { s with KEYBUF := Vector.replicate 72 0 }, rfl, by decide, by intro rest h; simp [s, at'] at h⟩

theorem witness_UnkeyedOnlyKeyinitSucceeds : ∃ (s t : State) (i : Instr),
    s.KEYED = false ∧ exec i s = .next t ∧ t.ERR = .ok :=
  ⟨{ withKey 0x61 with KEYED := false }, _, .keyinit, rfl, execKeyinit_of_key (by decide), rfl⟩

theorem witness_ResetValues : ∃ (u : State) (rest : List HostEvent),
    u.pending = .reset :: rest ∧ u.KEYED = true ∧ rest ≠ [] :=
  ⟨{ running .encb with pending := [.reset, writeCmd 1] }, _, rfl, rfl, by decide⟩

/-- A state with a written output message, and a step that writes to a buffer. -/
theorem witness_StepKeepsBufferDiscipline : ∃ s t : State, s.Inv ∧ step s = .next t ∧ s.OLEN = 8 ∧ t.IBUF ≠ s.IBUF :=
  ⟨{ facing (at' 0x100FFF (.write8 7)) with OBUF := Memory.writeBytes [] 0 [1, 2, 3, 4, 5, 6, 7, 8], OLEN := 8 }, _,
    ⟨nil_wf _, by decide, by decide, by decide⟩, rfl, rfl, by decide⟩

end Sys2Proof.Tests
end

namespace Sys2Proof.Machine

/-! ### The encoder against the decoder: commands and port operations -/

/-- An opcode that selects a command is that command's opcode (R50). -/
theorem opcode_of_commandOfOpcode {op : Byte} {i : Instr} (h : commandOfOpcode op = .ok i) : op = i.format.OP := by
  unfold commandOfOpcode at h
  split at h
  case h_6 => cases h
  all_goals
    cases h
    exact BitVec.eq_of_toNat_eq ‹_›

/-- A word is its two fields of R51. -/
theorem word_eq_of_fields (w : Word) :
    w = (w.extractLsb' 8 24).setWidth 32 <<< 8 ||| (w.extractLsb' 0 8).setWidth 32 := by
  ext k hk
  by_cases h : k < 8
  · simp [h, BitVec.getLsbD_eq_getElem hk]
  · simp [h, BitVec.getLsbD_eq_getElem hk, show k - 8 < 24 by omega, show 8 + (k - 8) = k by omega]

/-- A word that selects a command is the command's own word (R50, R51). -/
theorem eq_encode_of_decode {w : Word} {i : Instr} (h : decode w = .ok i) : w = encode i := by
  rw [decode_eq] at h
  split at h
  case isTrue hrsv =>
    have hop := opcode_of_commandOfOpcode h
    have hfmt : i.format.RSV = 0 := by cases i <;> rfl
    rw [encode, hfmt, ← hop, ← hrsv]
    exact word_eq_of_fields w
  case isFalse => cases h

/-- A write of a word that selects a command runs it (R18). -/
theorem command_of_decode {w : Word} {i : Instr} (h : decode w = .ok i) (s : State) : command w s = exec i s := by
  simp [command, h]

/-- An address from its number. -/
theorem addr_eq_ofNat {A : FlatAddr} {n : Nat} (h : A.toNat = n) : A = BitVec.ofNat 22 n := by
  simp [← h]

/-- An offset of `REG` that holds a register is that register's (R17). -/
theorem offset_of_regAt {off : Nat} {r : Reg} (h : regAt off = some r) : off = regOffset r := by
  unfold regAt at h
  split at h <;> cases h <;> rfl

/-- What a flat address that is mapped reaches, with the address spelled from its base (R31). -/
theorem targetOf_cases (b : BufBytes) (A : FlatAddr) :
    targetOf b A = .reg A.toNat ∨
    (∃ i : Fin 72, targetOf b A = .keybuf i ∧ A = spaceAddr .KEYBUF i.val) ∨
    (∃ off, targetOf b A = .ibuf off ∧ off < b.bytes ∧ A = spaceAddr .IBUF off) ∨
    (∃ off, targetOf b A = .obuf off ∧ off < b.bytes ∧ A = spaceAddr .OBUF off) ∨
    targetOf b A = .unmapped := by
  unfold targetOf
  simp only
  split
  · exact .inl rfl
  · split
    · exact .inr (.inl ⟨_, rfl, addr_eq_ofNat (by simp only [spaceBase]; omega)⟩)
    · split
      · exact .inr (.inr (.inl ⟨_, rfl, by omega, addr_eq_ofNat (by simp only [spaceBase]; omega)⟩))
      · split
        · exact .inr (.inr (.inr (.inl ⟨_, rfl, by omega, addr_eq_ofNat (by simp only [spaceBase]; omega)⟩)))
        · exact .inr (.inr (.inr (.inr rfl)))

/-- A register access of a transaction that decodes to it names the register's address. -/
theorem regAddr_of_regAt {A : FlatAddr} {r : Reg} (h : regAt A.toNat = some r) : A = regAddr r :=
  addr_eq_ofNat (offset_of_regAt h)

/-- A transaction that decodes to a legal operation is the one the operation is written as, at a place that exists
(R31, R34, R58). -/
theorem eq_encodeOp_of_portOp {b : BufBytes} {tr : Transaction} {op : PortOp} (h : portOp b tr = some op) :
    op.inRange b = true ∧ tr = encodeOp op := by
  obtain ⟨A, a⟩ := tr
  simp only [portOp] at h
  rcases targetOf_cases b A with ht | ⟨i, ht, rfl⟩ | ⟨off, ht, hoff, rfl⟩ | ⟨off, ht, hoff, rfl⟩ | ht
  all_goals rw [ht] at h
  · cases a <;> simp only [portOpAt, Option.map_eq_some_iff, reduceCtorEq] at h
    all_goals
      obtain ⟨r, hr, rfl⟩ := h
      exact ⟨rfl, by rw [regAddr_of_regAt hr]; rfl⟩
  · cases a <;> cases h <;> exact ⟨rfl, rfl⟩
  · cases a <;> cases h <;> exact ⟨decide_eq_true hoff, rfl⟩
  · cases a <;> cases h <;> exact ⟨decide_eq_true hoff, rfl⟩
  · cases h

@[simp] theorem portOp_readReg (b : BufBytes) (r : Reg) : portOp b ⟨regAddr r, .read32⟩ = some (.readReg r) := by
  cases r <;> rfl

@[simp] theorem portOp_writeReg (b : BufBytes) (r : Reg) (v : Word) :
    portOp b ⟨regAddr r, .write32 v⟩ = some (.writeReg r v) := by
  cases r <;> rfl

/-! ### A step whose next event is known -/

section
variable {s : State} {rest : List HostEvent}

theorem step_of_reset (h : s.pending = .reset :: rest) : step s = .next (resetEngine (takeEvent rest s)) := by
  simp [step, h, performEvent]

theorem step_of_transaction {tr : Transaction} (h : s.pending = .transaction tr :: rest) :
    step s = performTransaction tr (takeEvent rest s) := by
  simp [step, h, performEvent]

/-- A transaction that decodes to an operation performs it (R35). -/
theorem step_of_op {tr : Transaction} {op : PortOp} (h : s.pending = .transaction tr :: rest)
    (hop : portOp s.bufBytes tr = some op) : step s = performOp op (takeEvent rest s) := by
  simp [step_of_transaction h, performTransaction, hop]

/-- A transaction that decodes to nothing gets ERROR and does nothing (R35). -/
theorem step_of_illegal {tr : Transaction} (h : s.pending = .transaction tr :: rest)
    (hop : portOp s.bufBytes tr = none) : step s = .next (respond .error (takeEvent rest s)) := by
  simp [step_of_transaction h, performTransaction, hop]

/-- A read of a register answers its value and does nothing else (R17, R37). -/
theorem step_of_readReg {r : Reg} (h : s.pending = .transaction ⟨regAddr r, .read32⟩ :: rest) :
    step s = .next (respond (.okay32 (readReg s r)) (takeEvent rest s)) :=
  (step_of_op h (portOp_readReg _ r)).trans (by cases r <;> rfl)

/-- A write of a register performs it and answers OKAY (R17, R35). -/
theorem step_of_writeReg {r : Reg} {v : Word} (h : s.pending = .transaction ⟨regAddr r, .write32 v⟩ :: rest) :
    step s = answer .okay (performWrite r v (takeEvent rest s)) :=
  step_of_op h (portOp_writeReg _ r v)

/-- A write of a register other than `CMD` stores it (R17, R20, R21). -/
theorem step_of_storeReg {r : Reg} {v : Word} (hr : r ≠ .CMD)
    (h : s.pending = .transaction ⟨regAddr r, .write32 v⟩ :: rest) :
    step s = .next (respond .okay (storeReg r v (takeEvent rest s))) := by
  rw [step_of_writeReg h]
  cases r
  case CMD => exact absurd rfl hr
  all_goals rfl

/-- A write of a word to `CMD` runs its command and answers OKAY (R18, R35). -/
theorem step_of_writeCmd {w : Word} (h : s.pending = writeCmd w :: rest) :
    step s = answer .okay (command w (takeEvent rest s)) :=
  step_of_writeReg h

end

/-! ### Everything a command or a step can change -/

/-- Stripping never lengthens (R92). -/
theorem stripLen_le (B : List Byte) (n : Nat) : stripLen B n ≤ n := by
  induction n with
  | zero => exact le_rfl
  | succ m ih =>
    rw [stripLen]
    split
    · omega
    · exact le_rfl

/-- The output of ENCM has the padded length (R95). -/
theorem encrypted_length (f : Word → Word → Word × Word) (s : State) (n : Nat) :
    (mapBlocks f (pad (inputBytes s n))).length = pad8 n := by
  have hpad : (pad (inputBytes s n)).length = 8 * ((n + 7) / 8) := by simp [pad8]
  exact mapBlocks_length f _ _ hpad

/-- The output of DECM has the length of its input, a multiple of 8 (R96). -/
theorem decryptedBytes_length (s : State) {n : Nat} (h : n % 8 = 0) : (decryptedBytes s n).length = n := by
  have hn : n = 8 * (n / 8) := by omega
  have hin : (inputBytes s n).length = 8 * (n / 8) := by simpa using hn
  exact (mapBlocks_length _ _ _ hin).trans hn.symm

/-- What a write of the word `w` to `CMD` makes of a state: an error code and nothing else (R113), or what the command
writes when it completes (R70, R88, R89, R95, R96). Values that no use of it needs are left open. -/
inductive CommandEffect (w : Word) (s : State) : State → Prop
  | error (c : ErrCode) : CommandEffect w s (raiseError c s)
  | tables (Pv : PArray) (Sv : SBoxes) (hw : w = 1) (hkey : s.KEYLEN ≠ 0) :
      CommandEffect w s (clearError (eraseKey (installTables Pv Sv s)))
  | block (lr : Word × Word) (hk : s.KEYED = true) : CommandEffect w s (clearError (setBlock lr s))
  | message (out : List Byte) (len : Nat) (hw : w = 4 ∨ w = 5) (hk : s.KEYED = true)
      (hout : out.length ≤ s.bufBytes.bytes) (hlen : len ≤ out.length) :
      CommandEffect w s (clearError (writeOutput out len s))

/-- A completed command is one of the cases, under the command's own word. -/
theorem exec_effect {i : Instr} {s t : State} (h : exec i s = .next t) : CommandEffect (encode i) s t := by
  cases i with
  | keyinit =>
    rcases execKeyinit_next h with ⟨-, rfl⟩ | ⟨hkey, rfl⟩
    · exact .error _
    · exact .tables _ _ rfl hkey
  | encb =>
    rcases execEncb_next h with ⟨-, rfl⟩ | ⟨hk, rfl⟩
    · exact .error _
    · exact .block _ hk
  | decb =>
    rcases execDecb_next h with ⟨-, rfl⟩ | ⟨hk, rfl⟩
    · exact .error _
    · exact .block _ hk
  | encm =>
    rcases execEncm_next h with ⟨-, rfl⟩ | ⟨-, -, rfl⟩ | ⟨hk, hfits, rfl⟩
    · exact .error _
    · exact .error _
    · have hlen := encrypted_length (encBlock s.P s.S) s s.ILEN.toNat
      exact .message _ _ (.inl rfl) hk (hlen.trans_le hfits) hlen.ge
  | decm =>
    rcases execDecm_next h with ⟨-, rfl⟩ | ⟨-, -, rfl⟩ | ⟨-, -, -, rfl⟩ | ⟨hk, hmod, hfits, rfl⟩
    · exact .error _
    · exact .error _
    · exact .error _
    · have hlen := decryptedBytes_length s hmod
      exact .message _ _ (.inr rfl) hk (hlen.trans_le hfits) ((stripLen_le _ _).trans hlen.ge)

/-- A `CMD` write is one of the cases; a reserved word is an error (R52). -/
theorem command_effect {w : Word} {s t : State} (h : command w s = .next t) : CommandEffect w s t := by
  rcases command_next h with ⟨i, hi, ht⟩ | ⟨-, -, rfl⟩
  · exact eq_encode_of_decode hi ▸ exec_effect ht
  · exact .error _

/-- What a step makes of a state: one case for each kind of thing the host can do (R6, R30, R35 to R39, R130). -/
inductive StepEffect (s : State) : State → Prop
  | idle (hp : s.pending = []) : StepEffect s s
  | reset (rest : List HostEvent) (hp : s.pending = .reset :: rest) : StepEffect s (resetEngine (takeEvent rest s))
  /-- A read, an ignored write of `OBUF`, or an illegal transaction. -/
  | answered (rest : List HostEvent) (r : Response) : StepEffect s (respond r (takeEvent rest s))
  | command (rest : List HostEvent) (w : Word) (u : State) (hp : s.pending = writeCmd w :: rest)
      (hu : CommandEffect w (takeEvent rest s) u) : StepEffect s (respond .okay u)
  | storeReg (rest : List HostEvent) (r : Reg) (v : Word) :
      StepEffect s (respond .okay (storeReg r v (takeEvent rest s)))
  | storeKeybuf (rest : List HostEvent) (i : Fin 72) (v : Byte) :
      StepEffect s (respond .okay (storeKeybuf i v (takeEvent rest s)))
  | storeIbuf (rest : List HostEvent) (off : Nat) (v : Byte) (hoff : off < s.bufBytes.bytes)
      (hp : s.pending = .transaction ⟨spaceAddr .IBUF off, .write8 v⟩ :: rest) :
      StepEffect s (respond .okay (storeIbuf off v (takeEvent rest s)))

/-- Every step is one of the cases. -/
theorem step_effect {s t : State} (h : step s = .next t) : StepEffect s t := by
  rcases step_next h with ⟨hp, rfl⟩ | ⟨rest, hp, rfl⟩ | ⟨tr, rest, hp, ht⟩
  · exact .idle hp
  · exact .reset rest hp
  · rcases performTransaction_next ht with ⟨-, rfl⟩ | ⟨op, hop, hdo⟩
    · exact .answered rest _
    · obtain ⟨hrange, rfl⟩ := eq_encodeOp_of_portOp hop
      rcases performOp_next hdo with ⟨r, rfl, rfl⟩ | ⟨w, u, rfl, hu, rfl⟩ | ⟨r, v, hr, rfl, rfl⟩ | ⟨i, rfl, rfl⟩ |
        ⟨i, v, rfl, rfl⟩ | ⟨off, rfl, rfl⟩ | ⟨off, v, rfl, rfl⟩ | ⟨off, rfl, rfl⟩ | ⟨off, v, rfl, rfl⟩
      · exact .answered rest _
      · exact .command rest w u hp (command_effect hu)
      · exact .storeReg rest r v
      · exact .answered rest _
      · exact .storeKeybuf rest i v
      · exact .answered rest _
      · exact .storeIbuf rest off v (of_decide_eq_true hrange) hp
      · exact .answered rest _
      · exact .answered rest _

end Sys2Proof.Machine

namespace Sys2Proof.Machine

/-! ### The registers, the step of a command, and reset (10_state.md R17 to R24) -/

/-- Settles O5: the word's command is what a write of `CMD` runs. -/
theorem stepRunsDecodedCommand : Obligations.StepRunsDecodedCommand := by
  intro s w rest i hp hi
  have hstep : step s = answer .okay (exec i (takeEvent rest s)) := by
    rw [step_of_writeCmd hp, command_of_decode hi]
  rw [hstep]
  rfl

theorem decode_of_decodeTableWord {nbits w : Nat} {i : Instr} (h : decodeTableWord nbits w = some i) :
    decode (tableWord nbits w) = .ok i := by
  unfold decodeTableWord at h
  cases hd : decode (tableWord nbits w) with
  | error e => simp [hd, Except.toOption] at h
  | ok j => simpa [hd, Except.toOption] using h

/-- Settles O6: the table word is the host's next write of `CMD`. -/
theorem fetchedWordRuns : Obligations.FetchedWordRuns := by
  intro s nbits w i h
  have hp : (s.withFetchWord nbits w).pending = writeCmd (tableWord nbits w) :: s.pending := rfl
  exact stepRunsDecodedCommand _ _ _ i hp (decode_of_decodeTableWord h)

theorem readReg_reset (r : Reg) : readReg State.reset r = 0 := by cases r <;> rfl

/-- Settles O9: one clause per register, from the step of a register read or write. -/
theorem registerSpace : Obligations.RegisterSpace := by
  refine ⟨fun s rest => ?_, fun s rest v => ?_, readReg_reset⟩
  · exact ⟨step_of_readReg (r := .CMD), step_of_readReg (r := .STATUS), step_of_readReg (r := .KEYLEN),
      step_of_readReg (r := .ILEN), step_of_readReg (r := .OLEN), step_of_readReg (r := .DL),
      step_of_readReg (r := .DR), fun h => step_of_illegal h rfl⟩
  · exact ⟨fun h => (step_of_writeCmd h).trans rfl, step_of_storeReg (r := .STATUS) nofun,
      step_of_storeReg (r := .KEYLEN) nofun, step_of_storeReg (r := .ILEN) nofun, step_of_storeReg (r := .OLEN) nofun,
      step_of_storeReg (r := .DL) nofun, step_of_storeReg (r := .DR) nofun, fun h => step_of_illegal h rfl⟩

/-- `STATUS` as a number: `KEYED` in bit 0, the code of `ERR` from bit 4 on, nothing else (R19). -/
theorem statusWord_toNat (keyed : Bool) (err : ErrCode) :
    (statusWord keyed err).toNat = (if keyed then 1 else 0) + 16 * (errBits err).toNat := by
  cases keyed <;> cases err <;> rfl

/-- Settles O10: each field is read off the number that `STATUS` holds. -/
theorem statusFields : Obligations.StatusFields := by
  refine ⟨fun s => ?_, rfl, rfl, rfl, rfl, rfl, rfl⟩
  have hval : (readReg s .STATUS).toNat = (if s.KEYED then 1 else 0) + 16 * (errBits s.ERR).toNat :=
    statusWord_toNat s.KEYED s.ERR
  have herr := (errBits s.ERR).isLt
  have hkeyed : (if s.KEYED then 1 else 0) < 2 := by split <;> decide
  refine ⟨?_, ?_, ?_, ?_, hval⟩
  · rw [BitVec.getLsbD, hval, Nat.testBit_zero]
    cases s.KEYED <;> simp <;> omega
  all_goals
    apply BitVec.eq_of_toNat_eq
    simp only [BitVec.extractLsb'_toNat, Nat.shiftRight_eq_div_pow, hval, BitVec.ofNat_eq_ofNat, BitVec.toNat_ofNat]
    omega

/-- Settles O11: the step of a write, then the step of a read, of `KEYLEN`. -/
theorem keylenSaturates : Obligations.KeylenSaturates := by
  intro s v rest hp
  let read : HostEvent := .transaction ⟨regAddr .KEYLEN, .read32⟩
  let t := respond .okay (storeReg .KEYLEN v (takeEvent (read :: rest) s))
  have hwrite : step s = .next t := step_of_storeReg (r := .KEYLEN) nofun hp
  have hread : step t = .next (respond (.okay32 (readReg t .KEYLEN)) (takeEvent rest t)) := step_of_readReg rfl
  have hval : t.KEYLEN.val = min v.toNat 72 := rfl
  have hzext : (readReg t .KEYLEN).toNat = t.KEYLEN.val := by
    have := t.KEYLEN.isLt
    simp only [readReg, BitVec.toNat_ofNat]
    omega
  exact ⟨t, _, hwrite, rfl, by omega, by omega, hread, rfl, _, rfl, hzext⟩

/-- The values that R24 gives a state after reset. -/
theorem reset_values (n : Nat) :
    let e := Engine.reset n
    e.KEYED = false ∧ e.ERR = .ok ∧ e.KEYLEN = 0 ∧ (∀ i : Fin 72, e.KEYBUF[i] = 0) ∧ e.ILEN = 0 ∧ e.OLEN = 0 ∧
      e.DL = 0 ∧ e.DR = 0 :=
  ⟨rfl, rfl, rfl, fun i => by simp [Engine.reset], rfl, rfl, rfl, rfl⟩

/-- Settles O51: both states hold `Engine.reset`. -/
theorem resetValues : Obligations.ResetValues := by
  refine ⟨reset_values 0, fun u rest hp => ⟨_, step_of_reset hp, ?_⟩⟩
  obtain ⟨hkeyed, herr, hlen, hkey, hilen, holen, hdl, hdr⟩ := reset_values (u.resets + 1)
  exact ⟨hkeyed, herr, hlen, hkey, hilen, holen, hdl, hdr, rfl⟩

/-! ### The invariant of the buffers -/

/-- The invariant speaks of the buffers, `OLEN` and the parameter only. -/
theorem State.Inv.congr {s t : State} (h : s.Inv) (hbytes : t.bufBytes = s.bufBytes) (hibuf : t.IBUF = s.IBUF)
    (hobuf : t.OBUF = s.OBUF) (holen : t.OLEN = s.OLEN) : t.Inv := by
  obtain ⟨hi, ho, hle, hwritten⟩ := h
  exact ⟨by rwa [hbytes, hibuf], by rwa [hbytes, hobuf], by rwa [hbytes, holen], by rwa [hobuf, holen]⟩

/-- Buffers that hold nothing, with no output message. -/
theorem State.Inv.of_empty {s : State} (hibuf : s.IBUF = []) (hobuf : s.OBUF = []) (holen : s.OLEN = 0) : s.Inv where
  ibuf_wf := hibuf ▸ nil_wf _
  obuf_wf := hobuf ▸ nil_wf _
  olen_le := by simp [holen]
  output_written k hk := by simp [holen] at hk

theorem State.Inv.storeIbuf {s : State} (h : s.Inv) {off : Nat} (hoff : off < s.bufBytes.bytes) (v : Byte) :
    (storeIbuf off v s).Inv :=
  ⟨write_wf h.ibuf_wf hoff v, h.obuf_wf, h.olen_le, h.output_written⟩

/-- An output message that fits and is no longer than the bytes stored keeps the invariant (R22, R95, R96). -/
theorem State.Inv.writeOutput {s : State} (h : s.Inv) {out : List Byte} {len : Nat}
    (hout : out.length ≤ s.bufBytes.bytes) (hlen : len ≤ out.length) : (writeOutput out len s).Inv := by
  have holen : (Machine.writeOutput out len s).OLEN.toNat = len := by
    have := s.bufBytes.most
    simp only [writeOutput_OLEN, BitVec.toNat_ofNat]
    omega
  refine ⟨h.ibuf_wf, writeBytes_wf h.obuf_wf (by omega), ?_, fun k hk => ?_⟩
  · rw [holen]
    exact hlen.trans hout
  · have hk' : k < out.length := by omega
    simp [lookup_writeBytes, hk']

theorem CommandEffect.keeps_inv {w : Word} {s t : State} (h : CommandEffect w s t) (hs : s.Inv) : t.Inv := by
  cases h with
  | error c => exact hs.congr rfl rfl rfl rfl
  | tables Pv Sv hw hkey => exact hs.congr rfl rfl rfl rfl
  | block lr hk => exact hs.congr rfl rfl rfl rfl
  | message out len hw hk hout hlen => exact (hs.writeOutput hout hlen).congr rfl rfl rfl rfl

/-- Settles O52: after reset both buffers are empty and `OLEN` is 0. -/
theorem resetSatisfiesBufferDiscipline : Obligations.ResetSatisfiesBufferDiscipline :=
  .of_empty rfl rfl rfl

/-- Settles O53, by the cases of a step: only a byte written to `IBUF`, a message command and a reset touch what the
invariant speaks of. -/
theorem stepKeepsBufferDiscipline : Obligations.StepKeepsBufferDiscipline := by
  intro s t hs hstep
  have hs' (rest : List HostEvent) : (takeEvent rest s).Inv := hs.congr rfl rfl rfl rfl
  cases step_effect hstep with
  | idle hp => exact hs
  | reset rest hp => exact .of_empty rfl rfl rfl
  | answered rest r => exact hs.congr rfl rfl rfl rfl
  | command rest w u hp hu => exact (hu.keeps_inv (hs' rest)).congr rfl rfl rfl rfl
  | storeReg rest r v => exact hs.congr (by simp) (by simp) (by simp) (by simp)
  | storeKeybuf rest i v => exact hs.congr rfl rfl rfl rfl
  | storeIbuf rest off v hoff hp => exact ((hs' rest).storeIbuf hoff v).congr rfl rfl rfl rfl

/-! ### Which event changes which element -/

/-- No command clears `KEYED` (R19). -/
theorem CommandEffect.keyed {w : Word} {s t : State} (h : CommandEffect w s t) (hs : s.KEYED = true) :
    t.KEYED = true := by
  cases h with
  | error c => exact hs
  | tables Pv Sv hw hkey => rfl
  | block lr hk => exact hs
  | message out len hw hk hout hlen => exact hs

/-- Settles O19: besides a reset only a command touches `KEYED` or `ERR`, and no command clears `KEYED`. -/
theorem statusChangesOnlyByCommandOrReset : Obligations.StatusChangesOnlyByCommandOrReset := by
  intro s t hstep
  cases step_effect hstep with
  | reset rest hp => exact ⟨fun _ => ⟨rest, .inl hp⟩, fun _ _ => ⟨rest, hp⟩⟩
  | command rest w u hp hu =>
    refine ⟨fun _ => ⟨rest, .inr ⟨w, hp⟩⟩, fun hs ht => ?_⟩
    have hu' : u.KEYED = true := hu.keyed hs
    simp [hu'] at ht
  | _ => simp +contextual

/-- A command that changes the tables is a KEYINIT with a key, and completes without error (R12, R70). -/
theorem CommandEffect.tables_changed {w : Word} {s t : State} (h : CommandEffect w s t)
    (hne : t.P ≠ s.P ∨ t.S ≠ s.S) : w = 1 ∧ s.KEYLEN ≠ 0 ∧ t.ERR = .ok := by
  cases h with
  | tables Pv Sv hw hkey => exact ⟨hw, hkey, rfl⟩
  | _ => simp at hne

/-- Settles O45: besides a reset only a command touches `P` or `S`. -/
theorem tablesChangeOnlyByKeyinitOrReset : Obligations.TablesChangeOnlyByKeyinitOrReset := by
  intro s t hstep hne
  cases step_effect hstep with
  | reset rest hp => exact ⟨rest, .inl hp⟩
  | command rest w u hp hu =>
    obtain ⟨rfl, hkey, herr⟩ := hu.tables_changed hne
    exact ⟨rest, .inr ⟨hp, hkey, herr⟩⟩
  | _ => simp at hne

/-- No command writes `IBUF` (R16). -/
theorem CommandEffect.ibuf {w : Word} {s t : State} (h : CommandEffect w s t) : t.IBUF = s.IBUF := by
  cases h <;> rfl

/-- A command that changes `OBUF` or `OLEN` is an ENCM or DECM of a keyed engine, and completes without error
(R16, R22). -/
theorem CommandEffect.output_changed {w : Word} {s t : State} (h : CommandEffect w s t)
    (hne : t.OBUF ≠ s.OBUF ∨ t.OLEN ≠ s.OLEN) : (w = 4 ∨ w = 5) ∧ s.KEYED = true ∧ t.ERR = .ok := by
  cases h with
  | message out len hw hk hout hlen => exact ⟨hw, hk, rfl⟩
  | _ => simp at hne

/-- Settles O46: a byte write touches `IBUF`, a message command touches `OBUF` and `OLEN`, a reset all three. -/
theorem eachBufferHasOneWriter : Obligations.EachBufferHasOneWriter := by
  intro s t hstep
  cases step_effect hstep with
  | reset rest hp => exact ⟨fun _ => ⟨rest, .inl hp⟩, fun _ => ⟨rest, .inl hp⟩⟩
  | command rest w u hp hu =>
    refine ⟨fun hne => absurd hu.ibuf hne, fun hne => ?_⟩
    obtain ⟨hw, hk, herr⟩ := hu.output_changed hne
    rcases hw with rfl | rfl
    · exact ⟨rest, .inr ⟨.inl hp, hk, herr⟩⟩
    · exact ⟨rest, .inr ⟨.inr hp, hk, herr⟩⟩
  | storeIbuf rest off v hoff hp => exact ⟨fun _ => ⟨rest, .inr ⟨off, v, hoff, hp⟩⟩, fun hne => by simp at hne⟩
  | _ => simp

/-! ### What the host cannot see -/

/-- Both results are next states, and these stand in the relation `R`. -/
def BothNext (R : State → State → Prop) (o o' : Result) : Prop :=
  ∃ s t : State, o = .next s ∧ o' = .next t ∧ R s t

/-- States related by `R` answer every read alike, and every event but a `CMD` write keeps them related. -/
structure PortBlind (R : State → State → Prop) : Prop where
  pending {s t} : R s t → t.pending = s.pending
  bufBytes {s t} : R s t → t.bufBytes = s.bufBytes
  readReg {s t} : R s t → ∀ r, readReg t r = readReg s r
  ibufByte {s t} : R s t → ∀ off, ibufByte t off = ibufByte s off
  obufByte {s t} : R s t → ∀ off, obufByte t off = obufByte s off
  takeEvent {s t} : R s t → ∀ rest, R (takeEvent rest s) (takeEvent rest t)
  respond {s t} : R s t → ∀ r, R (respond r s) (respond r t)
  storeReg {s t} : R s t → ∀ r v, R (storeReg r v s) (storeReg r v t)
  storeKeybuf {s t} : R s t → ∀ i v, R (storeKeybuf i v s) (storeKeybuf i v t)
  storeIbuf {s t} : R s t → ∀ off v, R (storeIbuf off v s) (storeIbuf off v t)
  resetEngine {s t} : R s t → R (resetEngine s) (resetEngine t)

section
variable {R : State → State → Prop} (hR : PortBlind R) {s t : State} (h : R s t)
include hR h

/-- A legal operation keeps the states related, if it is no write of `CMD` or its command does. -/
theorem PortBlind.performOp {op : PortOp}
    (hcmd : ∀ w, op = .writeReg .CMD w → BothNext R (command w s) (command w t)) :
    BothNext R (performOp op s) (performOp op t) := by
  cases op with
  | readReg r => exact ⟨_, _, rfl, by rw [Machine.performOp, hR.readReg h], hR.respond h _⟩
  | writeReg r v =>
    cases r
    case CMD =>
      obtain ⟨s', t', hs', ht', h'⟩ := hcmd v rfl
      exact ⟨_, _, congrArg (answer .okay) hs', congrArg (answer .okay) ht', hR.respond h' _⟩
    all_goals exact ⟨_, _, rfl, rfl, hR.respond (hR.storeReg h _ _) _⟩
  | readKeybuf i => exact ⟨_, _, rfl, rfl, hR.respond h _⟩
  | writeKeybuf i v => exact ⟨_, _, rfl, rfl, hR.respond (hR.storeKeybuf h i v) _⟩
  | readIbuf off => exact ⟨_, _, rfl, by rw [Machine.performOp, hR.ibufByte h], hR.respond h _⟩
  | writeIbuf off v => exact ⟨_, _, rfl, rfl, hR.respond (hR.storeIbuf h off v) _⟩
  | readObuf off => exact ⟨_, _, rfl, by rw [Machine.performOp, hR.obufByte h], hR.respond h _⟩
  | writeObuf off v => exact ⟨_, _, rfl, rfl, hR.respond h _⟩

/-- A step keeps the states related, if its event is no write of `CMD` or its command does. -/
theorem PortBlind.step (hcmd : ∀ w rest, s.pending = writeCmd w :: rest →
      BothNext R (command w (Machine.takeEvent rest s)) (command w (Machine.takeEvent rest t))) :
    BothNext R (step s) (step t) := by
  have htp := hR.pending h
  cases hs : s.pending with
  | nil => exact ⟨s, t, by simp [Machine.step, hs], by simp [Machine.step, htp, hs], h⟩
  | cons e rest =>
    rw [hs] at htp
    cases e with
    | reset => exact ⟨_, _, step_of_reset hs, step_of_reset htp, hR.resetEngine (hR.takeEvent h rest)⟩
    | transaction tr =>
      cases hop : portOp s.bufBytes tr with
      | none =>
        exact ⟨_, _, step_of_illegal hs hop, step_of_illegal htp (hR.bufBytes h ▸ hop),
          hR.respond (hR.takeEvent h rest) _⟩
      | some op =>
        rw [step_of_op hs hop, step_of_op htp (hR.bufBytes h ▸ hop)]
        refine hR.performOp (hR.takeEvent h rest) fun w hw => hcmd w rest ?_
        obtain ⟨-, htr⟩ := eq_encodeOp_of_portOp hop
        rw [hs, htr, hw]
        rfl

end

/-- A write of `CMD` keeps the states related, if the command it runs and the refusal of a reserved word do. -/
theorem BothNext.command {R : State → State → Prop} {w : Word} {s t : State}
    (hexec : ∀ i, w = encode i → BothNext R (exec i s) (exec i t))
    (herr : R (raiseError .illegalCmd s) (raiseError .illegalCmd t)) : BothNext R (command w s) (command w t) := by
  cases hd : decode w with
  | ok i =>
    rw [command_of_decode hd, command_of_decode hd]
    exact hexec i (eq_encode_of_decode hd)
  | error e => exact ⟨_, _, by simp [Machine.command, hd], by simp [Machine.command, hd], herr⟩

/-- States that differ only in the tables are one state with two contents of `P` and `S`. -/
theorem SameButTables.exists_eq {s t : State} (h : SameButTables s t) : ∃ Pv Sv, t = { s with P := Pv, S := Sv } :=
  ⟨t.P, t.S, h⟩

/-- States that differ only in the key bytes are one state with two contents of `KEYBUF`. -/
theorem SameButKeybuf.exists_eq {s t : State} (h : SameButKeybuf s t) : ∃ K, t = { s with KEYBUF := K } :=
  ⟨t.KEYBUF, h⟩

theorem SameButTables.response {s t : State} (h : SameButTables s t) : s.response = t.response := by
  obtain ⟨Pv, Sv, rfl⟩ := h.exists_eq
  rfl

theorem SameButKeybuf.response {s t : State} (h : SameButKeybuf s t) : s.response = t.response := by
  obtain ⟨K, rfl⟩ := h.exists_eq
  rfl

/-- No read and no event but a command depends on `P` or `S` (R11). -/
theorem portBlind_sameButTables : PortBlind SameButTables := by
  constructor <;> intro s t h <;> obtain ⟨Pv, Sv, rfl⟩ := h.exists_eq
  case readReg => intro r; cases r <;> rfl
  case storeReg => intro r v; cases r <;> rfl
  all_goals intros; rfl

/-- No read and no event but a command depends on `KEYBUF` (R15). -/
theorem portBlind_sameButKeybuf : PortBlind SameButKeybuf := by
  constructor <;> intro s t h <;> obtain ⟨K, rfl⟩ := h.exists_eq
  case readReg => intro r; cases r <;> rfl
  case storeReg => intro r v; cases r <;> rfl
  all_goals intros; rfl

/-- An error entry does not depend on the tables. -/
theorem SameButTables.raiseError {s t : State} (h : SameButTables s t) (c : ErrCode) :
    SameButTables (raiseError c s) (raiseError c t) := by
  obtain ⟨Pv, Sv, rfl⟩ := h.exists_eq
  rfl

/-- An error entry does not depend on the key bytes. -/
theorem SameButKeybuf.raiseError {s t : State} (h : SameButKeybuf s t) (c : ErrCode) :
    SameButKeybuf (raiseError c s) (raiseError c t) := by
  obtain ⟨K, rfl⟩ := h.exists_eq
  rfl

/-- Settles O48: with no `CMD` write the step is blind to the tables. -/
theorem tablesNeverReadThroughThePort : Obligations.TablesNeverReadThroughThePort := by
  intro s t h hp
  obtain ⟨s', t', hs', ht', h'⟩ := portBlind_sameButTables.step h fun w rest hw => absurd hw (hp w rest)
  exact ⟨s', t', hs', ht', h', h'.response⟩

/-- A command other than KEYINIT does not depend on `KEYBUF`. -/
theorem exec_sameButKeybuf {i : Instr} (hi : i ≠ .keyinit) {s t : State} (h : SameButKeybuf s t) :
    BothNext SameButKeybuf (exec i s) (exec i t) := by
  obtain ⟨K, rfl⟩ := h.exists_eq
  cases i with
  | keyinit => exact absurd rfl hi
  | encb => simp only [exec, execEncb]; split <;> exact ⟨_, _, rfl, rfl, rfl⟩
  | decb => simp only [exec, execDecb]; split <;> exact ⟨_, _, rfl, rfl, rfl⟩
  | encm => simp only [exec, execEncm]; split_ifs <;> exact ⟨_, _, rfl, rfl, rfl⟩
  | decm => simp only [exec, execDecm]; split_ifs <;> exact ⟨_, _, rfl, rfl, rfl⟩

/-- Settles O49: the word of a `CMD` write is not KEYINIT's, and no other command reads `KEYBUF`. -/
theorem keyBytesCannotBeReadBack : Obligations.KeyBytesCannotBeReadBack := by
  intro s t h hp
  obtain ⟨s', t', hs', ht', h'⟩ := portBlind_sameButKeybuf.step h fun w rest hw => by
    have hrest := portBlind_sameButKeybuf.takeEvent h rest
    refine .command (fun i hi => exec_sameButKeybuf ?_ hrest) (hrest.raiseError _)
    rintro rfl
    subst hi
    exact hp rest hw
  exact ⟨s', t', hs', ht', h', h'.response⟩

/-- The tables do not show: the states differ only in them, and not even in them once keyed (R24, U1). -/
def TablesHidden (s t : State) : Prop := SameButTables s t ∧ (s.KEYED = true → s = t)

/-- States that differ only in the tables and are not keyed. -/
theorem SameButTables.hidden {s t : State} (h : SameButTables s t) (hk : s.KEYED = false) : TablesHidden s t :=
  ⟨h, fun hk' => by simp [hk] at hk'⟩

/-- Equal states hide nothing. -/
theorem TablesHidden.refl (s : State) : TablesHidden s s := ⟨rfl, fun _ => rfl⟩

/-- No event but a command lets the tables of an unkeyed engine show or keys it (R11, R19). -/
theorem portBlind_tablesHidden : PortBlind TablesHidden where
  pending h := portBlind_sameButTables.pending h.1
  bufBytes h := portBlind_sameButTables.bufBytes h.1
  readReg h := portBlind_sameButTables.readReg h.1
  ibufByte h := portBlind_sameButTables.ibufByte h.1
  obufByte h := portBlind_sameButTables.obufByte h.1
  takeEvent h rest := ⟨portBlind_sameButTables.takeEvent h.1 rest, fun hk => congrArg _ (h.2 hk)⟩
  respond h r := ⟨portBlind_sameButTables.respond h.1 r, fun hk => congrArg _ (h.2 hk)⟩
  storeReg {s _} h r v :=
    ⟨portBlind_sameButTables.storeReg h.1 r v, fun hk => congrArg _ (h.2 (storeReg_KEYED r v s ▸ hk))⟩
  storeKeybuf h i v := ⟨portBlind_sameButTables.storeKeybuf h.1 i v, fun hk => congrArg _ (h.2 hk)⟩
  storeIbuf h off v := ⟨portBlind_sameButTables.storeIbuf h.1 off v, fun hk => congrArg _ (h.2 hk)⟩
  resetEngine h := (portBlind_sameButTables.resetEngine h.1).hidden rfl

/-- Unkeyed, every command but KEYINIT raises NOT_KEYED (R132). -/
theorem exec_unkeyed {i : Instr} (hi : i ≠ .keyinit) {s : State} (hk : s.KEYED = false) :
    exec i s = .next (raiseError .notKeyed s) := by
  cases i with
  | keyinit => exact absurd rfl hi
  | encb => simp [exec, execEncb, hk]
  | decb => simp [exec, execDecb, hk]
  | encm => simp [exec, execEncm, hk]
  | decm => simp [exec, execDecm, hk]

/-- KEYINIT overwrites both tables with the schedule of the key, or only raises its error (R70, R75). -/
theorem execKeyinit_tablesHidden {s t : State} (h : SameButTables s t) (hk : s.KEYED = false) :
    BothNext TablesHidden (execKeyinit s) (execKeyinit t) := by
  have herr := (h.raiseError .invalidKey).hidden hk
  obtain ⟨Pv, Sv, rfl⟩ := h.exists_eq
  by_cases hlen : s.KEYLEN = 0
  · exact ⟨_, _, by simp [execKeyinit, hlen], by simp [execKeyinit, hlen], herr⟩
  · exact ⟨_, _, execKeyinit_of_key hlen, execKeyinit_of_key hlen, .refl _⟩

/-- Unkeyed, no command lets the tables show. -/
theorem exec_tablesHidden (i : Instr) {s t : State} (h : SameButTables s t) (hk : s.KEYED = false) :
    BothNext TablesHidden (exec i s) (exec i t) := by
  by_cases hi : i = .keyinit
  · subst hi
    exact execKeyinit_tablesHidden h hk
  · have hkt : t.KEYED = false := by
      obtain ⟨Pv, Sv, rfl⟩ := h.exists_eq
      exact hk
    exact ⟨_, _, exec_unkeyed hi hk, exec_unkeyed hi hkt, (h.raiseError _).hidden hk⟩

/-- Settles O47: that the tables are hidden is kept by every event, a command of the unkeyed engine among them. -/
theorem tablesInvisibleWhileUnkeyed : Obligations.TablesInvisibleWhileUnkeyed := by
  intro s t h hk
  obtain ⟨s', t', hs', ht', h', heq⟩ := portBlind_tablesHidden.step (h.hidden hk) fun w rest _ => by
    have hrest := portBlind_sameButTables.takeEvent h rest
    exact .command (fun i _ => exec_tablesHidden i hrest hk) ((hrest.raiseError _).hidden hk)
  exact ⟨s', t', hs', ht', h', h'.response, heq⟩

end Sys2Proof.Machine

namespace Sys2Proof.Machine

/-! ### The flat window (20_memory.md R31) -/

/-- The number of a flat address lies in one of the four ranges, or outside all of them (R31). -/
theorem flatAddr_cases (b : BufBytes) (a : Nat) :
    a ≤ 0x00001F ∨ (∃ i : Fin 72, a = 0x000100 + i.val) ∨ (∃ off < b.bytes, a = 0x100000 + off) ∨
    (∃ off < b.bytes, a = 0x200000 + off) ∨
    (0x00001F < a ∧ ¬(0x000100 ≤ a ∧ a ≤ 0x000147) ∧ ¬(0x100000 ≤ a ∧ a < 0x100000 + b.bytes) ∧
      ¬(0x200000 ≤ a ∧ a < 0x200000 + b.bytes)) := by
  by_cases hkey : 0x000100 ≤ a ∧ a ≤ 0x000147
  · exact .inr (.inl ⟨⟨a - 0x000100, by omega⟩, by simp only; omega⟩)
  by_cases hibuf : 0x100000 ≤ a ∧ a < 0x100000 + b.bytes
  · exact .inr (.inr (.inl ⟨a - 0x100000, by omega, by omega⟩))
  by_cases hobuf : 0x200000 ≤ a ∧ a < 0x200000 + b.bytes
  · exact .inr (.inr (.inr (.inl ⟨a - 0x200000, by omega, by omega⟩)))
  omega

section
variable {b : BufBytes} {A : FlatAddr}

theorem targetOf_reg (h : A.toNat ≤ 0x00001F) : targetOf b A = .reg A.toNat := by
  simp [targetOf, h]

theorem targetOf_keybuf {i : Fin 72} (h : A.toNat = 0x000100 + i.val) : targetOf b A = .keybuf i := by
  have hreg : ¬ 0x000100 + i.val ≤ 0x00001F := by omega
  have hi : 0x000100 + i.val ≤ 0x000147 := by omega
  simp [targetOf, h, hreg, hi]

theorem targetOf_ibuf {off : Nat} (hoff : off < b.bytes) (h : A.toNat = 0x100000 + off) :
    targetOf b A = .ibuf off := by
  have hreg : ¬ 0x100000 + off ≤ 0x00001F := by omega
  have hkey : ¬ 0x100000 + off ≤ 0x000147 := by omega
  simp [targetOf, h, hreg, hkey, hoff]

theorem targetOf_obuf {off : Nat} (hoff : off < b.bytes) (h : A.toNat = 0x200000 + off) :
    targetOf b A = .obuf off := by
  have hreg : ¬ 0x200000 + off ≤ 0x00001F := by omega
  have hkey : ¬ 0x200000 + off ≤ 0x000147 := by omega
  have hibuf : ¬ 0x200000 + off < 0x100000 + b.bytes := by have := b.most; omega
  simp [targetOf, h, hreg, hkey, hibuf, hoff]

theorem targetOf_unmapped (hreg : 0x00001F < A.toNat) (hkey : ¬(0x000100 ≤ A.toNat ∧ A.toNat ≤ 0x000147))
    (hibuf : ¬(0x100000 ≤ A.toNat ∧ A.toNat < 0x100000 + b.bytes))
    (hobuf : ¬(0x200000 ≤ A.toNat ∧ A.toNat < 0x200000 + b.bytes)) : targetOf b A = .unmapped := by
  simp only [targetOf, Nat.not_le.2 hreg, hkey, hibuf, hobuf, if_false, dif_neg, not_false_eq_true]

end

/-- Settles O4: in each range of the window the target is known, and the ranges do not overlap because `BUF_BYTES` is
at most 0x100000. -/
theorem flatMapRanges : Obligations.FlatMapRanges := by
  intro b A
  have hleast := b.least
  have hmost := b.most
  rcases flatAddr_cases b A.toNat with h | ⟨i, h⟩ | ⟨off, hoff, h⟩ | ⟨off, hoff, h⟩ | ⟨hreg, hkey, hibuf, hobuf⟩
  on_goal 1 => simp only [targetOf_reg h, Target.reg.injEq, reduceCtorEq, false_iff]
  on_goal 2 => simp only [targetOf_keybuf h, Target.keybuf.injEq, Fin.ext_iff, reduceCtorEq, false_iff]
  on_goal 3 => simp only [targetOf_ibuf hoff h, Target.ibuf.injEq, reduceCtorEq, false_iff]
  on_goal 4 => simp only [targetOf_obuf hoff h, Target.obuf.injEq, reduceCtorEq, false_iff]
  on_goal 5 => simp only [targetOf_unmapped hreg hkey hibuf hobuf, reduceCtorEq, false_iff, true_iff]
  all_goals refine ⟨?_, ?_, ?_, ?_, ?_⟩ <;> intros <;> omega

/-! ### Legal transactions (20_memory.md R34, R35, 30_encoding.md R58) -/

/-- The number of the flat address of an offset that the window can hold (R31). -/
theorem spaceAddr_toNat {sp : ByteSpace} {off : Nat} (h : off ≤ 0x100000) :
    (spaceAddr sp off).toNat = spaceBase sp + off := by
  have hbase : spaceBase sp ≤ 0x200000 := by cases sp <;> decide
  exact BitVec.toNat_ofNat .. |>.trans (Nat.mod_eq_of_lt (by omega))

/-- An operation at a place that exists is decoded from the transaction it is written as (R58). -/
theorem portOp_encodeOp {b : BufBytes} {op : PortOp} (h : op.inRange b = true) :
    portOp b (encodeOp op) = some op := by
  have hmost := b.most
  have hkeybuf (i : Fin 72) : targetOf b (spaceAddr .KEYBUF i.val) = .keybuf i :=
    targetOf_keybuf (spaceAddr_toNat (by omega))
  have hibuf {off : Nat} (hoff : off < b.bytes) : targetOf b (spaceAddr .IBUF off) = .ibuf off :=
    targetOf_ibuf hoff (spaceAddr_toNat (by omega))
  have hobuf {off : Nat} (hoff : off < b.bytes) : targetOf b (spaceAddr .OBUF off) = .obuf off :=
    targetOf_obuf hoff (spaceAddr_toNat (by omega))
  cases op with
  | readReg r => exact portOp_readReg b r
  | writeReg r v => exact portOp_writeReg b r v
  | readKeybuf i => exact congrArg (portOpAt · .read8) (hkeybuf i)
  | writeKeybuf i v => exact congrArg (portOpAt · (.write8 v)) (hkeybuf i)
  | readIbuf off => exact congrArg (portOpAt · .read8) (hibuf (of_decide_eq_true h))
  | writeIbuf off v => exact congrArg (portOpAt · (.write8 v)) (hibuf (of_decide_eq_true h))
  | readObuf off => exact congrArg (portOpAt · .read8) (hobuf (of_decide_eq_true h))
  | writeObuf off v => exact congrArg (portOpAt · (.write8 v)) (hobuf (of_decide_eq_true h))

/-- Settles O3: the decoder undoes the encoder, and the encoder the decoder. -/
theorem portTransactionsRoundTrip : Obligations.PortTransactionsRoundTrip := by
  intro b t op
  constructor
  · exact eq_encodeOp_of_portOp
  · rintro ⟨hrange, rfl⟩
    exact portOp_encodeOp hrange

/-- The offsets of `REG` that hold a register (R17). -/
theorem regAt_isSome {off : Nat} : (regAt off).isSome = true ↔ off % 4 = 0 ∧ off ≤ 0x18 := by
  constructor
  · intro h
    obtain ⟨r, hr⟩ := Option.isSome_iff_exists.1 h
    rw [offset_of_regAt hr]
    cases r <;> decide
  · rintro ⟨hmod, hle⟩
    obtain ⟨k, hk, rfl⟩ : ∃ k ≤ 6, off = 4 * k := ⟨off / 4, by omega, by omega⟩
    interval_cases k <;> rfl

/-- The transactions that are legal in the words of R34 are those that decode to an operation. -/
theorem portOp_isSome {b : BufBytes} {t : Transaction} :
    (portOp b t).isSome = true ↔ LegalTransaction b t := by
  obtain ⟨A, a⟩ := t
  have hmost := b.most
  simp only [portOp]
  rcases flatAddr_cases b A.toNat with h | ⟨i, h⟩ | ⟨off, hoff, h⟩ | ⟨off, hoff, h⟩ | ⟨hreg, hkey, hibuf, hobuf⟩
  on_goal 1 => rw [targetOf_reg h]
  on_goal 2 => rw [targetOf_keybuf h]
  on_goal 3 => rw [targetOf_ibuf hoff h]
  on_goal 4 => rw [targetOf_obuf hoff h]
  on_goal 5 => rw [targetOf_unmapped hreg hkey hibuf hobuf]
  all_goals
    cases a <;> simp only [portOpAt, LegalTransaction, regAt_isSome, Option.isSome_map, Option.isSome_some,
      Option.isSome_none, Bool.false_eq_true, false_iff, true_iff] <;> omega

/-! ### What a transaction answers (20_memory.md R35 to R38) -/

/-- Every command completes (R36, R113). -/
theorem exec_completes (i : Instr) (s : State) : ∃ t, exec i s = .next t := by
  cases i with
  | keyinit => simp only [exec, execKeyinit]; split <;> exact ⟨_, rfl⟩
  | encb => simp only [exec, execEncb]; split <;> exact ⟨_, rfl⟩
  | decb => simp only [exec, execDecb]; split <;> exact ⟨_, rfl⟩
  | encm => simp only [exec, execEncm]; split_ifs <;> exact ⟨_, rfl⟩
  | decm => simp only [exec, execDecm]; split_ifs <;> exact ⟨_, rfl⟩

/-- Every word written to `CMD` completes, a reserved one with its error (R18, R52). -/
theorem command_completes (w : Word) (s : State) : ∃ t, command w s = .next t := by
  cases hd : decode w with
  | ok i => rw [command_of_decode hd]; exact exec_completes i s
  | error e => exact ⟨raiseError .illegalCmd s, by simp [command, hd]⟩

/-- Every 32-bit write of a register completes (R17, R18). -/
theorem performWrite_completes (r : Reg) (v : Word) (s : State) : ∃ t, performWrite r v s = .next t := by
  cases r
  case CMD => exact command_completes v s
  all_goals exact ⟨_, rfl⟩

/-- The response is OKAY: of a write, of an 8-bit read or of a 32-bit read (R35). -/
def Okay (s : State) : Prop :=
  s.response = some .okay ∨ (∃ v, s.response = some (.okay8 v)) ∨ ∃ v, s.response = some (.okay32 v)

/-- Every legal operation completes and answers OKAY, a `CMD` write whose command fails included (R35). -/
theorem performOp_okay (op : PortOp) (s : State) : ∃ t, performOp op s = .next t ∧ Okay t := by
  cases op with
  | readReg r => exact ⟨_, rfl, .inr (.inr ⟨_, rfl⟩)⟩
  | writeReg r v =>
    obtain ⟨u, hu⟩ := performWrite_completes r v s
    exact ⟨_, congrArg (answer .okay) hu, .inl rfl⟩
  | writeKeybuf i v => exact ⟨_, rfl, .inl rfl⟩
  | writeIbuf off v => exact ⟨_, rfl, .inl rfl⟩
  | writeObuf off v => exact ⟨_, rfl, .inl rfl⟩
  | readKeybuf i => exact ⟨_, rfl, .inr (.inl ⟨_, rfl⟩)⟩
  | readIbuf off => exact ⟨_, rfl, .inr (.inl ⟨_, rfl⟩)⟩
  | readObuf off => exact ⟨_, rfl, .inr (.inl ⟨_, rfl⟩)⟩

/-- Settles O13: the legal transactions are those that decode to an operation, and each operation answers OKAY. -/
theorem legalGetsOkayIllegalGetsError : Obligations.LegalGetsOkayIllegalGetsError := by
  intro s t rest hp
  rw [← portOp_isSome]
  constructor
  · intro hlegal
    obtain ⟨op, hop⟩ := Option.isSome_iff_exists.1 hlegal
    rw [step_of_op hp hop]
    exact performOp_okay op _
  · intro hillegal
    exact step_of_illegal hp (Option.not_isSome_iff_eq_none.1 hillegal)

/-- Settles O7: with no event the step is idle; a reset, a legal and an illegal transaction each complete. -/
theorem everyStepCompletes : Obligations.EveryStepCompletes := by
  intro s
  cases hp : s.pending with
  | nil => exact ⟨s, by simp [step, hp]⟩
  | cons e rest =>
    cases e with
    | reset => exact ⟨_, step_of_reset hp⟩
    | transaction tr =>
      cases hop : portOp s.bufBytes tr with
      | none => exact ⟨_, step_of_illegal hp hop⟩
      | some op =>
        obtain ⟨t, ht, -⟩ := performOp_okay op (takeEvent rest s)
        exact ⟨t, (step_of_op hp hop).trans ht⟩

/-- An operation that is written as a read only gives a response (R37). -/
theorem performOp_of_isRead {op : PortOp} (h : (encodeOp op).access.isRead = true) (s : State) :
    ∃ r, performOp op s = .next (respond r s) := by
  cases op with
  | readReg r => exact ⟨_, rfl⟩
  | readKeybuf i => exact ⟨_, rfl⟩
  | readIbuf off => exact ⟨_, rfl⟩
  | readObuf off => exact ⟨_, rfl⟩
  | _ => cases h

/-- Settles O14: a read that decodes to an operation only gives its response, any other read ERROR. -/
theorem readsHaveNoSideEffect : Obligations.ReadsHaveNoSideEffect := by
  intro s t rest hp hread
  cases hop : portOp s.bufBytes t with
  | none => exact ⟨.error, step_of_illegal hp hop⟩
  | some op =>
    obtain ⟨-, rfl⟩ := eq_encodeOp_of_portOp hop
    obtain ⟨r, hr⟩ := performOp_of_isRead hread (takeEvent rest s)
    exact ⟨r, (step_of_op hp hop).trans hr⟩

/-- The next event is an operation at a place that exists: the step performs it (R35, R58). -/
theorem step_of_encodeOp {s : State} {rest : List HostEvent} {op : PortOp} (hrange : op.inRange s.bufBytes = true)
    (hp : s.pending = .transaction (encodeOp op) :: rest) : step s = performOp op (takeEvent rest s) :=
  step_of_op hp (portOp_encodeOp hrange)

/-- Settles O12: each access is an operation written out, and an `IBUF` write is the buffer's write. -/
theorem byteSpaces : Obligations.ByteSpaces := by
  intro s rest a
  refine ⟨fun i hp => ⟨?_, ?_⟩, fun off hoff hp => ⟨?_, ?_⟩, fun off hoff hp => ⟨?_, ?_⟩⟩
  · rintro rfl
    exact step_of_encodeOp (op := .readKeybuf i) rfl hp
  · rintro v rfl
    exact step_of_encodeOp (op := .writeKeybuf i v) rfl hp
  · rintro rfl
    exact step_of_encodeOp (op := .readIbuf off) (decide_eq_true hoff) hp
  · rintro v rfl
    refine ⟨_, step_of_encodeOp (op := .writeIbuf off v) (decide_eq_true hoff) hp, rfl, ?_, fun k hk => ?_⟩
    · simp [ibufByte_storeIbuf]
    · simp [ibufByte_storeIbuf, Ne.symm hk]
  · rintro rfl
    exact step_of_encodeOp (op := .readObuf off) (decide_eq_true hoff) hp
  · rintro v rfl
    exact step_of_encodeOp (op := .writeObuf off v) (decide_eq_true hoff) hp

/-! ### The order of the host's events (20_memory.md R40) -/

/-- The fields that are the model's own, but for the response, are the same in both states (logs 1, 4, 5). -/
structure SameOwnFields (s t : State) : Prop where
  pending : t.pending = s.pending
  bufBytes : t.bufBytes = s.bufBytes
  resets : t.resets = s.resets

/-- No command touches the model's own fields. -/
theorem CommandEffect.sameOwnFields {w : Word} {s t : State} (h : CommandEffect w s t) : SameOwnFields s t := by
  cases h <;> exact ⟨rfl, rfl, rfl⟩

/-- No legal operation touches the model's own fields but the response. -/
theorem performOp_sameOwnFields {op : PortOp} {s t : State} (h : performOp op s = .next t) : SameOwnFields s t := by
  rcases performOp_next h with ⟨r, -, rfl⟩ | ⟨w, u, -, hu, rfl⟩ | ⟨r, v, -, -, rfl⟩ | ⟨i, -, rfl⟩ | ⟨i, v, -, rfl⟩ |
    ⟨off, -, rfl⟩ | ⟨off, v, -, rfl⟩ | ⟨off, -, rfl⟩ | ⟨off, v, -, rfl⟩
  case inr.inl =>
    obtain ⟨hpending, hbytes, hresets⟩ := (command_effect hu).sameOwnFields
    exact ⟨hpending, hbytes, hresets⟩
  all_goals exact ⟨by simp, by simp, by simp⟩

/-- No transaction touches the model's own fields but the response. -/
theorem performTransaction_sameOwnFields {tr : Transaction} {s t : State} (h : performTransaction tr s = .next t) :
    SameOwnFields s t := by
  rcases performTransaction_next h with ⟨-, rfl⟩ | ⟨op, -, hop⟩
  · exact ⟨rfl, rfl, rfl⟩
  · exact performOp_sameOwnFields hop

/-- A step performs the oldest event, without it on the list (R40). -/
theorem step_of_event {s : State} {e : HostEvent} {rest : List HostEvent} (h : s.pending = e :: rest) :
    step s = performEvent e (takeEvent rest s) := by
  simp [step, h]

/-- Settles O8: a step takes its event off the list before it performs it, and no event touches the list or
`BUF_BYTES`, nor any but a reset the counter. -/
theorem stepTakesOneEventInOrder : Obligations.StepTakesOneEventInOrder := by
  intro s t h
  have hevent : ∀ e rest, s.pending = e :: rest → performEvent e { s with pending := rest } = .next t :=
    fun e rest hp => (step_of_event hp).symm.trans h
  rcases step_next h with ⟨hp, rfl⟩ | ⟨rest, hp, rfl⟩ | ⟨tr, rest, hp, htr⟩
  · simp [hp]
  · exact ⟨by simp [hp], by simp, by simp [hp], hevent, by simp [hp]⟩
  · obtain ⟨hpending, hbytes, hresets⟩ := performTransaction_sameOwnFields htr
    exact ⟨by simp [hp, hpending], hbytes, by simp [hp], hevent, by simp [hp, hresets]⟩

/-! ### Unspecified bytes and the numbering of the free values (20_memory.md R39) -/

/-- A byte that was written reads the same under any numbering of the free values. -/
theorem ibufByte_of_written {s : State} {k : Nat} (h : (Memory.lookup s.IBUF k).isSome = true) (m : Nat) :
    ibufByte { s with resets := m } k = ibufByte s k := by
  obtain ⟨v, hv⟩ := Option.isSome_iff_exists.1 h
  simp [ibufByte, hv]

/-- A message that was written is the same under any numbering of the free values. -/
theorem inputBytes_of_inputWritten {s : State} (h : InputWritten s) (m : Nat) :
    inputBytes { s with resets := m } s.ILEN.toNat = inputBytes s s.ILEN.toNat :=
  List.map_congr_left fun k hk => ibufByte_of_written (h k (List.mem_range.1 hk)) m

/-- Only the message reads the free values, so a command on a message that was written does the same under any
numbering of them. -/
theorem exec_renumbered {s : State} (h : InputWritten s) (m : Nat) (i : Instr) :
    BothNext (fun t u => u = { t with resets := m }) (exec i s) (exec i { s with resets := m }) := by
  have hin := inputBytes_of_inputWritten h m
  cases i with
  | keyinit => simp only [exec, execKeyinit]; split <;> exact ⟨_, _, rfl, rfl, rfl⟩
  | encb => simp only [exec, execEncb]; split <;> exact ⟨_, _, rfl, rfl, rfl⟩
  | decb => simp only [exec, execDecb]; split <;> exact ⟨_, _, rfl, rfl, rfl⟩
  | encm => simp only [exec, execEncm, hin]; split_ifs <;> exact ⟨_, _, rfl, rfl, rfl⟩
  | decm => simp only [exec, execDecm, decryptedBytes, hin]; split_ifs <;> exact ⟨_, _, rfl, rfl, rfl⟩

/-- Settles O43: the command answers both states, and the answers differ in the counter alone. -/
theorem writtenMessageHidesUnspecifiedBytes : Obligations.WrittenMessageHidesUnspecifiedBytes := by
  intro s t m i hw ht
  obtain ⟨s', t', hs', ht', rfl⟩ := exec_renumbered hw m i
  cases ht.symm.trans hs'
  exact ht'

end Sys2Proof.Machine

namespace Sys2Proof.Machine

/-! ### Command words (30_encoding.md R50 to R52) -/

/-- The decoder undoes the encoder (R51). -/
@[simp] theorem decode_encode (i : Instr) : decode (encode i) = .ok i := by cases i <;> rfl

/-- A word selects a command exactly when it is the command's own word (R51). -/
theorem decode_eq_ok_iff {w : Word} {i : Instr} : decode w = .ok i ↔ w = encode i := by
  constructor
  · exact eq_encode_of_decode
  · rintro rfl
    exact decode_encode i

/-- The opcodes that select a command (the table of R50). -/
theorem exists_commandOfOpcode_iff {op : Byte} :
    (∃ i, commandOfOpcode op = .ok i) ↔ 1 ≤ op.toNat ∧ op.toNat ≤ 5 := by
  unfold commandOfOpcode
  split
  case h_6 =>
    simp only [reduceCtorEq, exists_false, false_iff, imp_false] at *
    omega
  all_goals simp [*]

/-- The words that select a command, by their two fields (R51). -/
theorem exists_decode_iff {w : Word} : (∃ i, decode w = .ok i) ↔
    w.extractLsb' 8 24 = 0 ∧ 1 ≤ (w.extractLsb' 0 8).toNat ∧ (w.extractLsb' 0 8).toNat ≤ 5 := by
  rw [decode_eq, ← exists_commandOfOpcode_iff]
  split
  case isTrue hrsv => simp [hrsv]
  case isFalse hrsv => simp [show w.extractLsb' 8 24 ≠ 0#24 from hrsv]

/-- Settles O1: the fields say which words are commands, and the encoder which word each command has. -/
theorem commandWordSelectsExactlyItsCommand : Obligations.CommandWordSelectsExactlyItsCommand := fun _ =>
  ⟨exists_decode_iff, decode_eq_ok_iff, decode_eq_ok_iff, decode_eq_ok_iff, decode_eq_ok_iff, decode_eq_ok_iff,
    fun _ => decode_eq_ok_iff⟩

/-- Settles O2: the five words are the commands' own, and each other word is decoded to its refusal. -/
theorem writtenOutWordsDecode : Obligations.WrittenOutWordsDecode :=
  ⟨decode_encode .keyinit, decode_encode .encb, decode_encode .decb, decode_encode .encm, decode_encode .decm,
    rfl, rfl, rfl, rfl, rfl⟩

/-- The word of a command is the number 1 to 5 (R50). -/
theorem encode_toNat_bounds (i : Instr) : 1 ≤ (encode i).toNat ∧ (encode i).toNat ≤ 5 := by cases i <;> decide

/-- A write of a word that is no command's raises ILLEGAL_CMD and does nothing else (R52). -/
theorem command_of_reserved {w : Word} (h : w.toNat = 0 ∨ 6 ≤ w.toNat) (s : State) :
    command w s = .next (raiseError .illegalCmd s) := by
  cases hd : decode w with
  | ok i =>
    have hbounds := encode_toNat_bounds i
    rw [← eq_encode_of_decode hd] at hbounds
    omega
  | error e => simp [command, hd]

/-- Settles O15: the write of a reserved word is answered OKAY once the error is raised. -/
theorem reservedWordRaisesIllegalCmd : Obligations.ReservedWordRaisesIllegalCmd := by
  intro s w rest hp hw
  rw [step_of_writeCmd hp, command_of_reserved hw]
  rfl

/-! ### Key words (30_encoding.md R56) -/

/-- A word is the number that its four bytes write, the most significant first (R7). -/
theorem toNat_eq_bytes (w : Word) : w.toNat =
    2 ^ 24 * (byteA w).toNat + 2 ^ 16 * (byteB w).toNat + 2 ^ 8 * (byteC w).toNat + (byteD w).toNat := by
  have hw := w.isLt
  simp only [byteA, byteB, byteC, byteD, BitVec.extractLsb'_toNat, Nat.shiftRight_eq_div_pow]
  omega

/-- The number of a word made of four bytes, the first most significant (R7). -/
theorem be32_toNat (b0 b1 b2 b3 : Byte) : (be32 b0 b1 b2 b3).toNat =
    2 ^ 24 * b0.toNat + 2 ^ 16 * b1.toNat + 2 ^ 8 * b2.toNat + b3.toNat := by
  simpa using toNat_eq_bytes (be32 b0 b1 b2 b3)

/-- Of a key that is not empty, a running position names the byte at it modulo the length (R56). -/
theorem keyByte_eq_getElem {K : List Byte} (h : 1 ≤ K.length) (k : Nat) :
    keyByte K K.length k = K[k % K.length]'(Nat.mod_lt _ h) :=
  List.getD_eq_getElem _ _ _

/-- Settles O25: the key word is the big-endian number of the four bytes at its running positions. -/
theorem keyWordCyclicBigEndian : Obligations.KeyWordCyclicBigEndian := by
  intro K i h
  simp only [keyWord, be32_toNat, keyByte_eq_getElem h]

/-! ### The frame of each command (30_encoding.md R53) -/

/-- The bytes of `OBUF` past the output keep their values (R99). -/
theorem obufByte_writeOutput_of_length_le {out : List Byte} {a : Nat} (h : out.length ≤ a) (len : Nat) (s : State) :
    obufByte (writeOutput out len s) a = obufByte s a := by
  simp [obufByte_writeOutput, Nat.not_lt.2 h]

section
variable {s t : State}

/-- ENCM writes only the output, of the padded length (R95, R99). -/
theorem execEncm_frame (h : execEncm s = .next t) : t = { s with OBUF := t.OBUF, OLEN := t.OLEN, ERR := t.ERR } ∧
    ∀ a, pad8 s.ILEN.toNat ≤ a → obufByte t a = obufByte s a := by
  rcases execEncm_next h with ⟨-, rfl⟩ | ⟨-, -, rfl⟩ | ⟨-, -, rfl⟩
  · exact ⟨rfl, fun _ _ => rfl⟩
  · exact ⟨rfl, fun _ _ => rfl⟩
  · have hlen := encrypted_length (encBlock s.P s.S) s s.ILEN.toNat
    exact ⟨rfl, fun a ha => by simp [obufByte_writeOutput_of_length_le (hlen.trans_le ha)]⟩

/-- DECM writes only the output, of the length of the input (R96, R99). -/
theorem execDecm_frame (h : execDecm s = .next t) : t = { s with OBUF := t.OBUF, OLEN := t.OLEN, ERR := t.ERR } ∧
    ∀ a, s.ILEN.toNat ≤ a → obufByte t a = obufByte s a := by
  rcases execDecm_next h with ⟨-, rfl⟩ | ⟨-, -, rfl⟩ | ⟨-, -, -, rfl⟩ | ⟨-, hmod, -, rfl⟩
  · exact ⟨rfl, fun _ _ => rfl⟩
  · exact ⟨rfl, fun _ _ => rfl⟩
  · exact ⟨rfl, fun _ _ => rfl⟩
  · have hlen := decryptedBytes_length s hmod
    exact ⟨rfl, fun a ha => by simp [obufByte_writeOutput_of_length_le (hlen.trans_le ha)]⟩

end

/-- Settles O44: whatever a command does, an error or its result, leaves every other element. -/
theorem commandsWriteOnlyTheirElements : Obligations.CommandsWriteOnlyTheirElements := by
  intro s t
  refine ⟨fun h => ?_, fun h => ?_, fun h => ?_, execEncm_frame, execDecm_frame⟩
  · rcases execKeyinit_next h with ⟨-, rfl⟩ | ⟨-, rfl⟩ <;> rfl
  · rcases execEncb_next h with ⟨-, rfl⟩ | ⟨-, rfl⟩ <;> rfl
  · rcases execDecb_next h with ⟨-, rfl⟩ | ⟨-, rfl⟩ <;> rfl

end Sys2Proof.Machine

namespace Sys2Proof.Machine

/-! ### The check sums of the constant tables (40_constants.md R69) -/

/-- The two check sums R69 takes of a table: the exclusive or of its words, and their sum mod 2^32. -/
def checkSums (ws : List Word) : Word × Word := (ws.foldl (· ^^^ ·) 0, ws.foldl (· + ·) 0)

/- The tables are closed data of at most 256 words and irreducible to the elaborator, so the kernel evaluates the two
folds over each table. -/

theorem checkSums_pInit : checkSums pInit.toList = (0xB73AD7EA#32, 0x8E4D14CC#32) := by decide +kernel

theorem checkSums_sInit_zero : checkSums sInit[0].toList = (0x4EB4DB7F#32, 0x4B745115#32) := by decide +kernel

theorem checkSums_sInit_one : checkSums sInit[1].toList = (0xC727E122#32, 0x72FF37B2#32) := by decide +kernel

theorem checkSums_sInit_two : checkSums sInit[2].toList = (0x462A5D01#32, 0x2AC02B91#32) := by decide +kernel

theorem checkSums_sInit_three : checkSums sInit[3].toList = (0x1779E2BC#32, 0xF43E3A88#32) := by decide +kernel

/-- Settles O20, one table at a time. -/
theorem constantTableCheckSums : Obligations.ConstantTableCheckSums :=
  ⟨checkSums_pInit, checkSums_sInit_zero, checkSums_sInit_one, checkSums_sInit_two, checkSums_sInit_three⟩

end Sys2Proof.Machine

namespace Sys2Proof.Machine

/-! ### KEYINIT (41_key_schedule.md R70, R73 to R75) -/

/-- KEYINIT with the empty key raises its error and does nothing else (R73). -/
theorem execKeyinit_of_no_key {s : State} (h : s.KEYLEN = 0) : execKeyinit s = .next (raiseError .invalidKey s) := by
  simp [execKeyinit, h]

/-- Settles O23: of the two ways KEYINIT can end, one erases the key and the other leaves it. -/
theorem secondKeyinitNeedsAKey : Obligations.SecondKeyinitNeedsAKey := by
  intro s t h
  rcases execKeyinit_next h with ⟨-, rfl⟩ | ⟨-, rfl⟩
  · exact ⟨nofun, fun _ => ⟨rfl, rfl⟩⟩
  · exact ⟨fun _ => ⟨fun i => by simp, rfl, rfl, execKeyinit_of_no_key rfl⟩, fun herr => absurd rfl herr⟩

/-- Settles O21: the two ways KEYINIT can end, for its own word. -/
theorem keyinitBuildsCipher : Obligations.KeyinitBuildsCipher :=
  ⟨decode_encode .keyinit, fun _ => ⟨rfl, execKeyinit_of_key, execKeyinit_of_no_key⟩⟩

/-- Settles O22: the step of the `CMD` write is KEYINIT's error, and `STATUS` shows its code. -/
theorem emptyKeyRefused : Obligations.EmptyKeyRefused := by
  intro s rest hp hlen
  have hstep : step s = .next (respond .okay (raiseError .invalidKey (takeEvent rest s))) := by
    have hrun := (command_of_decode (decode_encode .keyinit) (takeEvent rest s)).trans (execKeyinit_of_no_key hlen)
    exact (step_of_writeCmd hp).trans (congrArg (answer .okay) hrun)
  obtain ⟨hfields, -⟩ := statusFields
  obtain ⟨hkeyed, -, herr, -⟩ := hfields (respond .okay (raiseError .invalidKey (takeEvent rest s)))
  exact ⟨_, hstep, rfl, herr, hkeyed⟩

/-- Settles O24: a KEYINIT with a key overwrites both tables and `KEYED`, and the schedule reads none of them. -/
theorem rekeyingIgnoresOldTables : Obligations.RekeyingIgnoresOldTables := by
  intro s P' S' k hlen
  have hlen' : { s with P := P', S := S', KEYED := k }.KEYLEN ≠ 0 := hlen
  exact (execKeyinit_of_key hlen').trans (execKeyinit_of_key hlen).symm

/-! ### What the schedule reads of the key (41_key_schedule.md R76) -/

/-- The schedule reads the key only through its 72 bytes at the running positions 0 to 71, those of the 18 key words
(R56, R71). -/
theorem schedule_congr {K K' : List Byte} {n n' : Nat} (h : ∀ k < 72, keyByte K n k = keyByte K' n' k) :
    schedule K n = schedule K' n' := by
  have hword (i : Fin 18) : keyWord K n i.val = keyWord K' n' i.val := by
    simp only [keyWord]
    congr 1 <;> exact h _ (by omega)
  have hstart : scheduleStart K n = scheduleStart K' n' := by simp only [scheduleStart, hword]
  rw [schedule_eq, schedule_eq, hstart]

/-- Settles O27: a running position modulo `m n` and then modulo `n` is the position modulo `n`. -/
theorem periodicKeySameSchedule : Obligations.PeriodicKeySameSchedule := by
  intro K K' m hn hm hlen hK
  refine schedule_congr fun k _ => ?_
  have hpos : 0 < K'.length := hlen ▸ Nat.mul_pos hm hn
  have hmod : k % K'.length % K.length = k % K.length := Nat.mod_mod_of_dvd k ⟨m, by rw [hlen, Nat.mul_comm]⟩
  rw [keyByte, keyByte, hK _ (Nat.mod_lt k hpos), hmod]

/-- Of a key of 72 bytes or more, the 72 running positions do not wrap (R76). -/
theorem keyByte_eq_take {K : List Byte} (hK : 72 ≤ K.length) {k : Nat} (hk : k < 72) :
    keyByte K K.length k = (K.take 72).getD k 0 := by
  rw [keyByte, Nat.mod_eq_of_lt (by omega)]
  simp [List.getD, hk]

/-- Settles O28: both schedules read the same first 72 bytes. -/
theorem longKeySameSchedule : Obligations.LongKeySameSchedule := by
  intro K K' hK hK' htake
  refine schedule_congr fun k hk => ?_
  rw [keyByte_eq_take hK hk, keyByte_eq_take hK' hk, htake]

end Sys2Proof.Machine

namespace Sys2Proof.Machine

/-! ### The chain of block encryptions (41_key_schedule.md R71, R72) -/

/-- A fold over the indices below `m` walks a sequence that takes one step of the fold for each index. -/
theorem foldl_finRange_eq {α : Type} {m : Nat} {g : α → Fin m → α} {f : Nat → α}
    (h : ∀ i : Fin m, f (i.val + 1) = g (f i.val) i) : (List.finRange m).foldl g (f 0) = f m := by
  induction m with
  | zero => rfl
  | succ m ih =>
    have hinit : (List.finRange m).foldl (fun a i => g a i.castSucc) (f 0) = f m := ih fun i => h i.castSucc
    rw [List.finRange_succ_last, List.foldl_append, List.foldl_map, hinit]
    exact (h (Fin.last m)).symm

/-- The working tables and running block after the first `e` of the 521 encryptions (R71): 9 of step 3, then 128 for
each box of step 4. -/
def workingAt (K : List Byte) (n : Nat) : Nat → Working
  | 0 => scheduleStart K n
  | e + 1 =>
    if e < 9 then stepP (workingAt K n e) (Fin.ofNat 9 e)
    else stepS (Fin.ofNat 4 ((e - 9) / 128)) (workingAt K n e) (Fin.ofNat 128 (e - 9))

/-- The block of the chain that encryption number `e` starts from. -/
def runningBlock (K : List Byte) (n e : Nat) : Word × Word := ((workingAt K n e).L, (workingAt K n e).R)

/-- Word number `q` of those that the schedule stores, two by each encryption, the P-array before the S-boxes (R71). -/
def storedWord (K : List Byte) (n q : Nat) : Word :=
  if q % 2 = 0 then (runningBlock K n (q / 2 + 1)).1 else (runningBlock K n (q / 2 + 1)).2

section
variable (K : List Byte) (n : Nat)

theorem workingAt_zero : workingAt K n 0 = scheduleStart K n := by rw [workingAt]

/-- An encryption of step 3. -/
theorem workingAt_succ_stepP (k : Fin 9) : workingAt K n (k.val + 1) = stepP (workingAt K n k.val) k := by
  have hk : Fin.ofNat 9 k.val = k := Fin.ext (Nat.mod_eq_of_lt k.isLt)
  rw [workingAt, if_pos k.isLt, hk]

/-- An encryption of step 4. -/
theorem workingAt_succ_stepS (b : Fin 4) (k : Fin 128) :
    workingAt K n (9 + 128 * b.val + k.val + 1) = stepS b (workingAt K n (9 + 128 * b.val + k.val)) k := by
  have hb : Fin.ofNat 4 ((9 + 128 * b.val + k.val - 9) / 128) = b := Fin.ext (by simp only [Fin.ofNat]; omega)
  have hk : Fin.ofNat 128 (9 + 128 * b.val + k.val - 9) = k := Fin.ext (by simp only [Fin.ofNat]; omega)
  rw [workingAt, if_neg (by omega), hb, hk]

/-- The schedule is what the last encryption leaves. -/
theorem schedule_eq_workingAt : schedule K n = ((workingAt K n 521).Pv, (workingAt K n 521).Sv) := by
  have hP : replaceP (workingAt K n 0) = workingAt K n 9 := foldl_finRange_eq (workingAt_succ_stepP K n)
  have hbox (b : Fin 4) : workingAt K n (9 + 128 * (b.val + 1)) = replaceBox (workingAt K n (9 + 128 * b.val)) b :=
    (foldl_finRange_eq (f := fun k => workingAt K n (9 + 128 * b.val + k)) (workingAt_succ_stepS K n b)).symm
  have hS : replaceS (workingAt K n 9) = workingAt K n 521 :=
    foldl_finRange_eq (f := fun b => workingAt K n (9 + 128 * b)) hbox
  rw [schedule_eq, ← workingAt_zero, hP, hS]

/-- The encryptions by number: 9 of step 3, then those of step 4 by box. -/
theorem encryption_cases {e : Nat} (he : e < 521) :
    (∃ k : Fin 9, e = k.val) ∨ ∃ (b : Fin 4) (k : Fin 128), e = 9 + 128 * b.val + k.val := by
  by_cases h : e < 9
  · exact .inl ⟨⟨e, h⟩, rfl⟩
  · exact .inr ⟨⟨(e - 9) / 128, by omega⟩, ⟨(e - 9) % 128, by omega⟩, by simp only; omega⟩

end

section
variable {K : List Byte} {n e : Nat}

/-- Each encryption takes the running block to the next, with the tables as they are at that moment (R72). -/
theorem runningBlock_succ (he : e < 521) : runningBlock K n (e + 1) =
    encBlock (workingAt K n e).Pv (workingAt K n e).Sv (runningBlock K n e).1 (runningBlock K n e).2 := by
  rw [runningBlock]
  rcases encryption_cases he with ⟨k, rfl⟩ | ⟨b, k, rfl⟩
  · rw [workingAt_succ_stepP]; rfl
  · rw [workingAt_succ_stepS]; rfl

/-- Encryption number `e` replaces words `2e` and `2e + 1` of the P-array, if there are such, and no other. -/
theorem workingAt_succ_Pv (he : e < 521) {i : Nat} (hi : i < 18) :
    (workingAt K n (e + 1)).Pv[i] = if i = 2 * e then (runningBlock K n (e + 1)).1
      else if i = 2 * e + 1 then (runningBlock K n (e + 1)).2 else (workingAt K n e).Pv[i] := by
  rcases encryption_cases he with ⟨k, rfl⟩ | ⟨b, k, rfl⟩
  · rw [runningBlock, workingAt_succ_stepP, stepP_Pv, stepP_L, stepP_R]
  · rw [workingAt_succ_stepS, if_neg (by omega), if_neg (by omega), stepS_Pv]

/-- Encryption number `e` replaces words `2e` and `2e + 1` of the S-boxes, counted on from the P-array's 18, if there
are such, and no other. -/
theorem workingAt_succ_Sv (he : e < 521) {c j : Nat} (hc : c < 4) (hj : j < 256) :
    ((workingAt K n (e + 1)).Sv[c])[j] = if 18 + 256 * c + j = 2 * e then (runningBlock K n (e + 1)).1
      else if 18 + 256 * c + j = 2 * e + 1 then (runningBlock K n (e + 1)).2 else ((workingAt K n e).Sv[c])[j] := by
  rcases encryption_cases he with ⟨k, rfl⟩ | ⟨b, k, rfl⟩
  · rw [workingAt_succ_stepP, if_neg (by omega), if_neg (by omega)]
    rfl
  · have heven : (18 + 256 * c + j = 2 * (9 + 128 * b.val + k.val)) = (c = b.val ∧ j = 2 * k.val) := by
      rw [eq_iff_iff]; omega
    have hodd : (18 + 256 * c + j = 2 * (9 + 128 * b.val + k.val) + 1) = (c = b.val ∧ j = 2 * k.val + 1) := by
      rw [eq_iff_iff]; omega
    simp only [runningBlock, workingAt_succ_stepS, stepS_Sv, stepS_L, stepS_R, heven, hodd]

theorem storedWord_even (K : List Byte) (n e : Nat) : storedWord K n (2 * e) = (runningBlock K n (e + 1)).1 := by
  simp [storedWord]

theorem storedWord_odd (K : List Byte) (n e : Nat) : storedWord K n (2 * e + 1) = (runningBlock K n (e + 1)).2 := by
  have hhalf : (2 * e + 1) / 2 = e := by omega
  simp [storedWord, Nat.add_mod, hhalf]

/-- A table word that only its own encryption replaces: as at the start before that, the stored word after it. -/
theorem eq_storedWord_of_succ {x : Nat → Word} {q m : Nat}
    (hx : ∀ e < m, x (e + 1) = if q = 2 * e then (runningBlock K n (e + 1)).1
      else if q = 2 * e + 1 then (runningBlock K n (e + 1)).2 else x e) (he : e ≤ m) :
    x e = if q < 2 * e then storedWord K n q else x 0 := by
  induction e with
  | zero => rfl
  | succ e ih =>
    rw [hx e he, ih (by omega)]
    by_cases heven : q = 2 * e
    · subst heven
      rw [if_pos rfl, if_pos (by omega), storedWord_even]
    by_cases hodd : q = 2 * e + 1
    · subst hodd
      rw [if_neg heven, if_pos rfl, if_pos (by omega), storedWord_odd]
    have hlt : q < 2 * (e + 1) ↔ q < 2 * e := by omega
    simp only [if_neg heven, if_neg hodd, hlt]

/-- The P-array as encryption number `e` sees it (R72). -/
theorem workingAt_Pv (he : e ≤ 521) {i : Nat} (hi : i < 18) : (workingAt K n e).Pv[i] =
    if i < 2 * e then storedWord K n i else pInit[i] ^^^ keyWord K n i := by
  have h := eq_storedWord_of_succ (x := fun e => (workingAt K n e).Pv[i]) (fun _ he => workingAt_succ_Pv he hi) he
  simpa only [workingAt_zero, scheduleStart_Pv] using h

/-- The S-boxes as encryption number `e` sees them (R72). -/
theorem workingAt_Sv (he : e ≤ 521) {c j : Nat} (hc : c < 4) (hj : j < 256) : ((workingAt K n e).Sv[c])[j] =
    if 18 + 256 * c + j < 2 * e then storedWord K n (18 + 256 * c + j) else (sInit[c])[j] := by
  have h := eq_storedWord_of_succ (x := fun e => ((workingAt K n e).Sv[c])[j])
    (fun _ he => workingAt_succ_Sv he hc hj) he
  simpa only [workingAt_zero, scheduleStart_Sv] using h

end

section
variable (K : List Byte) (n : Nat)

/-- Every word of the final P-array is a stored one. -/
theorem schedule_P {i : Nat} (hi : i < 18) : (schedule K n).1[i] = storedWord K n i := by
  rw [schedule_eq_workingAt, workingAt_Pv le_rfl hi, if_pos (by omega)]

/-- Every word of the final S-boxes is a stored one. -/
theorem schedule_S {c j : Nat} (hc : c < 4) (hj : j < 256) :
    ((schedule K n).2[c])[j] = storedWord K n (18 + 256 * c + j) := by
  rw [schedule_eq_workingAt, workingAt_Sv le_rfl hc hj, if_pos (by omega)]

end

/-- Settles O26: `runningBlock` is the chain; a stored word in the tables of `workingAt_Pv` and `workingAt_Sv` is the
final one, which `schedule_P` and `schedule_S` give for every word. -/
theorem scheduleIsTheEncryptionChain : Obligations.ScheduleIsTheEncryptionChain := by
  intro K n _ P S
  have hP (i : Nat) (hi : i < 18) : P[i] = storedWord K n i := schedule_P K n hi
  have hS (c j : Nat) (hc : c < 4) (hj : j < 256) : (S[c])[j] = storedWord K n (18 + 256 * c + j) :=
    schedule_S K n hc hj
  refine ⟨runningBlock K n, by rw [runningBlock, workingAt_zero]; rfl, fun k => ?_, fun b k => ?_⟩
  · have hPv : (workingAt K n k.val).Pv =
        Vector.ofFn fun j => if j.val < 2 * k.val then P[j] else pInit[j] ^^^ keyWord K n j.val := by
      ext i hi : 1
      simp only [workingAt_Pv (show k.val ≤ 521 by omega) hi, Vector.getElem_ofFn, Fin.getElem_fin, hP]
    have hSv : (workingAt K n k.val).Sv = sInit := by
      ext c hc j hj : 2
      rw [workingAt_Sv (by omega) hc hj, if_neg (by omega)]
    rw [← hPv, ← hSv]
    refine ⟨runningBlock_succ (by omega), ?_, ?_⟩
    · exact (hP _ _).trans (storedWord_even K n _)
    · exact (hP _ _).trans (storedWord_odd K n _)
  · intro e
    have hPv : (workingAt K n e).Pv = P := by
      ext i hi : 1
      rw [workingAt_Pv (by omega) hi, if_pos (by omega), hP]
    have hSv : (workingAt K n e).Sv = Vector.ofFn fun c => Vector.ofFn fun j =>
        if c.val < b.val ∨ (c = b ∧ j.val < 2 * k.val) then (S[c])[j] else (sInit[c])[j] := by
      ext c hc j hj : 2
      have hdone : 18 + 256 * c + j < 2 * e ↔ c < b.val ∨ c = b.val ∧ j < 2 * k.val := by omega
      simp only [workingAt_Sv (show e ≤ 521 by omega) hc hj, hdone,
        Vector.getElem_ofFn, Fin.getElem_fin, hS, Fin.ext_iff]
    have hpos : 18 + 256 * b.val + 2 * k.val = 2 * e := by omega
    rw [← hPv, ← hSv]
    refine ⟨runningBlock_succ (by omega), ?_, ?_⟩
    · rw [← storedWord_even, ← hpos]
      exact hS _ _ _ _
    · rw [← storedWord_odd, ← hpos]
      exact hS _ _ _ _

end Sys2Proof.Machine

namespace Sys2Proof.Machine

/-! ### The round function (42_round_function.md R80) -/

/-- The look-up of the byte of `x` whose lowest bit is bit `k`, at the number of that byte (R54). -/
theorem sboxAt_extractLsb' (Sv : SBoxes) (b : Fin 4) (x : Word) (k : Nat) : sboxAt Sv b (x.extractLsb' k 8) =
    (Sv[b])[x.toNat / 2 ^ k % 256]'(Nat.mod_lt _ (by decide)) := by
  simp only [sboxAt, BitVec.extractLsb'_toNat, Nat.shiftRight_eq_div_pow]

/-- F on numbers: each of the two additions is reduced mod 2^32, the exclusive or needs no reduction (R80, R81). -/
theorem F_toNat (Sv : SBoxes) (x : Word) : (F Sv x).toNat =
    (((((sboxAt Sv 0 (byteA x)).toNat + (sboxAt Sv 1 (byteB x)).toNat) % 2 ^ 32) ^^^
      (sboxAt Sv 2 (byteC x)).toNat) + (sboxAt Sv 3 (byteD x)).toNat) % 2 ^ 32 := by
  simp only [F, BitVec.toNat_add, BitVec.toNat_xor]

/-- Settles O29: F on numbers, with the four bytes looked up at bits 24, 16, 8 and 0. -/
theorem roundFunctionValue : Obligations.RoundFunctionValue := by
  intro Sv x
  simp only [F_toNat, byteA, byteB, byteC, byteD, sboxAt_extractLsb']

end Sys2Proof.Machine

namespace Sys2Proof.Machine

/-! ### The block transforms (43_block_cipher.md R85 to R87) -/

section
variable (Pv : PArray) (Sv : SBoxes) (L R : Word)

/-- The form without swaps advances by one iteration of the loop: (l(i), r(i)) is the pair after `i` swaps (R85). -/
theorem swapFree_succ {i : Nat} (hi : i < 18) :
    swapFree Pv Sv L R (i + 1) = feistelRound Sv (swapFree Pv Sv L R i) Pv[i] := by
  simp [swapFree, feistelRound, hi]

/-- The loop of R85 after its first `n` iterations is the form without swaps. -/
theorem foldl_feistelRound_eq_swapFree {n : Nat} (hn : n ≤ 18) :
    (List.finRange n).foldl (fun lr i => feistelRound Sv lr Pv[i.val]) (L, R) = swapFree Pv Sv L R n := by
  induction n with
  | zero => rfl
  | succ n ih =>
    rw [List.finRange_succ_last, List.foldl_append, List.foldl_map, swapFree_succ Pv Sv L R hn, ← ih (by omega)]
    rfl

/-- `EncBlock` finishes what sixteen steps without swaps leave (R85). -/
theorem encBlock_eq_swapFree :
    encBlock Pv Sv L R = feistelFinish Pv[16] Pv[17] (swapFree Pv Sv L R 16) := by
  rw [encBlock, foldl_feistelRound_eq_swapFree Pv Sv L R (by decide)]

/-- `DecBlock` is `EncBlock` with the words of the P-array in reverse order (R86). -/
theorem decBlock_eq_encBlock_reverse : decBlock Pv Sv L R = encBlock Pv.reverse Sv L R := by
  simp [decBlock, encBlock]

/-- The finish with the two words exchanged takes the finish back. -/
theorem feistelFinish_feistelFinish (k k' : Word) (lr : Word × Word) :
    feistelFinish k' k (feistelFinish k k' lr) = lr := by
  simp [feistelFinish]

/-- A round with the last word takes back the round before a finish: what is left is a finish one word earlier, since
both rounds evaluate `F` at the same word (R87). -/
theorem feistelRound_feistelFinish_feistelRound (k k' k'' : Word) (lr : Word × Word) :
    feistelRound Sv (feistelFinish k' k'' (feistelRound Sv lr k)) k'' = feistelFinish k k' lr := by
  simp [feistelFinish, feistelRound, BitVec.xor_assoc]

/-- The sixteen steps back: after `j` of them, with the words in reverse order, the pair is a finish of the pair that
encryption had after `16 - j` steps (R87). -/
theorem swapFree_reverse_encBlock {m j : Nat} (h : m + j = 16) :
    swapFree Pv.reverse Sv (encBlock Pv Sv L R).1 (encBlock Pv Sv L R).2 j =
      feistelFinish Pv[m] Pv[m + 1] (swapFree Pv Sv L R m) := by
  induction j generalizing m with
  | zero =>
    obtain rfl : m = 16 := h
    exact encBlock_eq_swapFree Pv Sv L R
  | succ j ih =>
    have hkey : Pv.reverse[j] = Pv[m + 2] := by
      simp only [Vector.getElem_reverse, show 18 - 1 - j = m + 2 by omega]
    rw [swapFree_succ _ _ _ _ (by omega), ih (m := m + 1) (by omega), swapFree_succ Pv Sv L R (by omega), hkey]
    exact feistelRound_feistelFinish_feistelRound Sv _ _ _ _

/-- Encryption with the words in reverse order takes encryption back (R87). -/
theorem encBlock_reverse_encBlock :
    encBlock Pv.reverse Sv (encBlock Pv Sv L R).1 (encBlock Pv Sv L R).2 = (L, R) := by
  rw [encBlock_eq_swapFree Pv.reverse, swapFree_reverse_encBlock Pv Sv L R (m := 0) rfl]
  simp only [Vector.getElem_reverse]
  exact feistelFinish_feistelFinish _ _ _

/-- `DecBlock` undoes `EncBlock` (R87). -/
theorem decBlock_encBlock : decBlock Pv Sv (encBlock Pv Sv L R).1 (encBlock Pv Sv L R).2 = (L, R) := by
  rw [decBlock_eq_encBlock_reverse, encBlock_reverse_encBlock]

/-- `EncBlock` undoes `DecBlock` (R87). -/
theorem encBlock_decBlock : encBlock Pv Sv (decBlock Pv Sv L R).1 (decBlock Pv Sv L R).2 = (L, R) := by
  simpa only [decBlock_eq_encBlock_reverse, Vector.reverse_reverse] using
    encBlock_reverse_encBlock Pv.reverse Sv L R

end

/-- Settles O30: the finish of the sixteen steps without swaps, written out. -/
theorem encBlockSwapFree : Obligations.EncBlockSwapFree := encBlock_eq_swapFree

/-- Settles O31: each transform is the other's inverse on both sides. -/
theorem blockTransformsAreInverse : Obligations.BlockTransformsAreInverse := by
  intro Pv Sv
  let enc (b : Word × Word) : Word × Word := encBlock Pv Sv b.1 b.2
  let dec (b : Word × Word) : Word × Word := decBlock Pv Sv b.1 b.2
  have hdec : Function.LeftInverse dec enc := fun b => decBlock_encBlock Pv Sv b.1 b.2
  have henc : Function.LeftInverse enc dec := fun b => encBlock_decBlock Pv Sv b.1 b.2
  exact ⟨decBlock_encBlock Pv Sv, encBlock_decBlock Pv Sv, ⟨hdec.injective, henc.surjective⟩,
    ⟨henc.injective, hdec.surjective⟩⟩

/-! ### ENCB and DECB (43_block_cipher.md R88, R89) -/

section
variable {s : State}

/-- Keyed, ENCB encrypts the block (R88). -/
theorem exec_encb_of_keyed (hk : s.KEYED = true) :
    exec .encb s = .next (clearError (setBlock (encBlock s.P s.S s.DL s.DR) s)) := by
  simp [exec, execEncb, hk]

/-- Keyed, DECB decrypts the block (R89). -/
theorem exec_decb_of_keyed (hk : s.KEYED = true) :
    exec .decb s = .next (clearError (setBlock (decBlock s.P s.S s.DL s.DR) s)) := by
  simp [exec, execDecb, hk]

/-- The first block in the registers put back over another: only the cleared error is left of the two commands (R89). -/
theorem setBlock_restores (lr : Word × Word) :
    clearError (setBlock (s.DL, s.DR) (clearError (setBlock lr s))) = { s with ERR := .ok } := rfl

/-- DECB after ENCB gives the block back (R89). -/
theorem exec_decb_after_encb (hk : s.KEYED = true) :
    ∃ t, exec .encb s = .next t ∧ exec .decb t = .next { s with ERR := .ok } := by
  refine ⟨_, exec_encb_of_keyed hk, (exec_decb_of_keyed (by simpa using hk)).trans ?_⟩
  simp [decBlock_encBlock, setBlock_restores]

/-- ENCB after DECB gives the block back (R89). -/
theorem exec_encb_after_decb (hk : s.KEYED = true) :
    ∃ t, exec .decb s = .next t ∧ exec .encb t = .next { s with ERR := .ok } := by
  refine ⟨_, exec_decb_of_keyed hk, (exec_encb_of_keyed (by simpa using hk)).trans ?_⟩
  simp [encBlock_decBlock, setBlock_restores]

end

/-- Settles O32: ENCB for its own word, keyed and unkeyed. -/
theorem encbEncryptsBlock : Obligations.EncbEncryptsBlock :=
  ⟨decode_encode .encb, fun _ => ⟨exec_encb_of_keyed, exec_unkeyed (i := .encb) nofun⟩⟩

/-- Settles O33: DECB for its own word, keyed and unkeyed, and the two commands in either order. -/
theorem decbDecryptsBlock : Obligations.DecbDecryptsBlock :=
  ⟨decode_encode .decb, fun _ => ⟨exec_decb_of_keyed, exec_unkeyed (i := .decb) nofun,
    fun hk => ⟨exec_decb_after_encb hk, exec_encb_after_decb hk⟩⟩⟩

end Sys2Proof.Machine

namespace Sys2Proof.Machine

/-! ### Padding (44_message_codec.md R91) -/

/-- A message of whole blocks is not padded (R91). -/
theorem pad_of_mod {M : List Byte} (h : M.length % 8 = 0) : pad M = M := by simp [pad, pad8_of_mod h]

/-- Past the message the padding holds zero bytes, up to its own end (R91). -/
theorem pad_getElem?_of_length_le {M : List Byte} {k : Nat} (h : M.length ≤ k) (hk : k < pad8 M.length) :
    (pad M)[k]? = some 0 := by
  rw [pad, List.getElem?_append_right h, List.getElem?_replicate, if_pos (by omega)]

/-- Where 0 is read past the end, padding is invisible. -/
theorem pad_getD (M : List Byte) (k : Nat) : (pad M).getD k 0 = M.getD k 0 := by
  rcases Nat.lt_or_ge k M.length with h | h
  · exact List.getD_append _ _ _ _ h
  · rw [pad, List.getD_append_right _ _ _ _ h, List.getD_eq_default _ _ h]
    exact List.getElem?_getD_replicate_default_eq _ _ _

/-- Behind whole blocks the padding is that of the rest (R105). -/
theorem pad_append {A : List Byte} (h : A.length % 8 = 0) (B : List Byte) : pad (A ++ B) = A ++ pad B := by
  have hzeros : pad8 (A.length + B.length) - (A.length + B.length) = pad8 B.length - B.length := by
    unfold pad8
    omega
  simp [pad, hzeros]

/-- Settles O34: the message in front, then zero bytes up to `pad8` of its length. -/
theorem paddingIsZeroToMultipleOfEight : Obligations.PaddingIsZeroToMultipleOfEight := by
  intro M
  refine ⟨pad_length M, fun k hk => List.getElem?_append_left hk,
    fun k hle hlt => pad_getElem?_of_length_le hle (pad_length M ▸ hlt), pad_of_mod, fun hmod => ?_⟩
  rw [pad_length, pad8]
  omega

/-! ### Stripping (44_message_codec.md R92) -/

section
variable {B C : List Byte} {m n k : Nat}

/-- The bytes from `StripLen` on are 0 (R92). -/
theorem getD_eq_zero_of_stripLen_le (hk : stripLen B n ≤ k) (hkn : k < n) : B.getD k 0 = 0 := by
  induction n with
  | zero => omega
  | succ n ih =>
    rw [stripLen] at hk
    split at hk
    · rename_i hlast
      rcases Nat.lt_succ_iff_lt_or_eq.1 hkn with h | rfl
      · exact ih hk h
      · exact hlast
    · omega

/-- The byte before `StripLen`, if any, is not 0: there the loop of R92 stopped. -/
theorem getD_stripLen_pred_ne_zero (h : 0 < stripLen B n) : B.getD (stripLen B n - 1) 0 ≠ 0 := by
  induction n with
  | zero => exact absurd h (Nat.lt_irrefl 0)
  | succ n ih =>
    rw [stripLen] at h ⊢
    split at h
    · rw [if_pos ‹_›]
      exact ih h
    · rwa [if_neg ‹_›]

/-- A length behind which all bytes are 0 is no smaller than `StripLen` (R92). -/
theorem stripLen_le_of_zeros (h : ∀ k, m ≤ k → k < n → B.getD k 0 = 0) : stripLen B n ≤ m := by
  by_contra hm
  have hle := stripLen_le B n
  exact getD_stripLen_pred_ne_zero (B := B) (n := n) (by omega) (h _ (by omega) (by omega))

/-- Nothing is stripped from the empty message, or from one whose last byte is not 0 (R104). -/
theorem stripLen_eq_self (h : n = 0 ∨ B.getD (n - 1) 0 ≠ 0) : stripLen B n = n := by
  cases n with
  | zero => rfl
  | succ n => exact if_neg (h.resolve_left (Nat.succ_ne_zero n))

/-- Zero bytes at the end do not count, and no byte past the end is read (R92). -/
theorem stripLen_eq_of_zeros (hmn : m ≤ n) (hfront : ∀ k, k < m → C.getD k 0 = B.getD k 0)
    (hzero : ∀ k, m ≤ k → k < n → C.getD k 0 = 0) : stripLen C n = stripLen B m := by
  apply Nat.le_antisymm
  · refine stripLen_le_of_zeros fun k hk hkn => ?_
    rcases Nat.lt_or_ge k m with h | h
    · rw [hfront k h, getD_eq_zero_of_stripLen_le hk h]
    · exact hzero k h hkn
  · refine stripLen_le_of_zeros fun k hk hkm => ?_
    rw [← hfront k hkm, getD_eq_zero_of_stripLen_le hk (by omega)]

/-- Stripping takes the padding off again (R91, R92). -/
theorem stripLen_pad (M : List Byte) : stripLen (pad M) (pad8 M.length) = stripLen M M.length :=
  stripLen_eq_of_zeros (le_pad8 _) (fun k _ => pad_getD M k)
    fun k hk _ => by rw [pad_getD, List.getD_eq_default _ _ hk]

/-- Inside the list a byte that is read as 0 is a stored 0. -/
theorem getElem?_eq_some_zero_iff (hk : k < B.length) : B[k]? = some 0 ↔ B.getD k 0 = 0 := by simp [List.getD, hk]

end

/-- Settles O35, from the bytes behind `StripLen` and the byte before it. -/
theorem stripLenIsSmallest : Obligations.StripLenIsSmallest := by
  intro B n hn
  refine ⟨stripLen_le B n, fun k hk hkn => ?_, fun m _ hzero => stripLen_le_of_zeros fun k hk hkn => ?_⟩
  · exact (getElem?_eq_some_zero_iff (by omega)).2 (getD_eq_zero_of_stripLen_le hk hkn)
  · exact (getElem?_eq_some_zero_iff (by omega)).1 (hzero k hk hkn)

/-! ### The blockwise transform (44_message_codec.md R95 to R97) -/

section
variable (f : Word → Word → Word × Word) {M : List Byte} {nb : Nat}

/-- Whole blocks in front are transformed on their own (R97). -/
theorem mapBlocks_append {A : List Byte} (h : A.length = 8 * nb) (B : List Byte) :
    mapBlocks f (A ++ B) = mapBlocks f A ++ mapBlocks f B := by
  induction nb generalizing A with
  | zero =>
    obtain rfl : A = [] := List.eq_nil_of_length_eq_zero (by omega)
    rfl
  | succ nb ih =>
    obtain ⟨c0, c1, c2, c3, c4, c5, c6, c7, rest, rfl⟩ := exists_eight_cons (M := A) (by omega)
    simp only [List.length_cons] at h
    simp only [List.cons_append, mapBlocks_cons, ih (A := rest) (by omega), List.append_assoc]

/-- A serialised block in front is transformed as that block (R55, R97). -/
theorem mapBlocks_serialise_append (lr : Word × Word) (rest : List Byte) :
    mapBlocks f (serialise lr ++ rest) = serialise (f lr.1 lr.2) ++ mapBlocks f rest := by
  simp only [serialise, ser32, List.cons_append, List.nil_append, mapBlocks_cons, be32_bytes]

/-- A transform that undoes another on every block undoes it on every message of whole blocks (R104). -/
theorem mapBlocks_leftInverse {f g : Word → Word → Word × Word} (hgf : ∀ L R, g (f L R).1 (f L R).2 = (L, R))
    (h : M.length = 8 * nb) : mapBlocks g (mapBlocks f M) = M := by
  induction nb generalizing M with
  | zero =>
    obtain rfl : M = [] := List.eq_nil_of_length_eq_zero (by omega)
    rfl
  | succ nb ih =>
    obtain ⟨c0, c1, c2, c3, c4, c5, c6, c7, rest, rfl⟩ := exists_eight_cons (M := M) (by omega)
    simp only [List.length_cons] at h
    rw [mapBlocks_cons, mapBlocks_serialise_append, hgf, ih (by omega)]
    simp [serialise]

/-- A block is made of its own eight bytes only. -/
theorem blockAt_congr {byte byte' : Nat → Byte} {k : Nat} (h : ∀ j < 8, byte (8 * k + j) = byte' (8 * k + j)) :
    blockAt byte k = blockAt byte' k := by
  simp only [blockAt, h 1 (by decide), h 2 (by decide), h 3 (by decide), h 4 (by decide), h 5 (by decide),
    h 6 (by decide), h 7 (by decide), show byte (8 * k) = byte' (8 * k) from h 0 (by decide)]

/-- Bytes that hold a serialised block at the place of block `k` have that block there (R55). -/
theorem blockAt_of_serialise {byte : Nat → Byte} {k : Nat} {lr : Word × Word}
    (h : ∀ j < 8, byte (8 * k + j) = (serialise lr).getD j 0) : blockAt byte k = lr := by
  have h0 : byte (8 * k) = byteA lr.1 := h 0 (by decide)
  simp [blockAt, h0, h, serialise, ser32]

/-- Output block `k` is the transformed input block `k` (R95, R96). -/
theorem blockAt_mapBlocks (h : M.length = 8 * nb) {k : Nat} (hk : k < nb) :
    blockAt (fun i => (mapBlocks f M).getD i 0) k =
      f (blockAt (fun i => M.getD i 0) k).1 (blockAt (fun i => M.getD i 0) k).2 :=
  blockAt_of_serialise fun _ hj => mapBlocks_getD f h hk hj

/-- An output stored in `OBUF` reads block by block as the transformed input (R95, R96). -/
theorem blockAt_obufByte_writeOutput_mapBlocks (h : M.length = 8 * nb) {k : Nat} (hk : k < nb) (len : Nat)
    (s : State) : blockAt (obufByte (writeOutput (mapBlocks f M) len s)) k =
      f (blockAt (fun i => M.getD i 0) k).1 (blockAt (fun i => M.getD i 0) k).2 := by
  rw [← blockAt_mapBlocks f h hk]
  refine blockAt_congr fun j hj => ?_
  rw [obufByte_writeOutput, mapBlocks_length f nb M h, if_pos (by omega)]

end

/-- Settles O40: neither the padding nor the transform looks across a cut at a multiple of 8. -/
theorem messageMayBeCutAtMultiplesOfEight : Obligations.MessageMayBeCutAtMultiplesOfEight := by
  intro f A B hA
  have hblocks : A.length = 8 * (A.length / 8) := by omega
  refine ⟨?_, mapBlocks_append f hblocks B⟩
  rw [pad_append hA, pad_of_mod hA, mapBlocks_append f hblocks]

/-! ### The messages in the two buffers -/

/-- Byte `k` of the input message. -/
theorem inputBytes_getD (s : State) {n k : Nat} (h : k < n) : (inputBytes s n).getD k 0 = ibufByte s k := by
  simp [inputBytes, h]

/-- The padded input message has whole blocks (R91). -/
theorem pad_inputBytes_length (s : State) (n : Nat) : (pad (inputBytes s n)).length = 8 * ((n + 7) / 8) := by
  simp [pad8]

/-- The padded message byte by byte is the padded message as a list (R91). -/
theorem paddedByte_eq_getD (s : State) : paddedByte s = fun k => (pad (inputBytes s s.ILEN.toNat)).getD k 0 := by
  funext k
  rw [paddedByte, pad_getD]
  split
  · exact (inputBytes_getD s ‹_›).symm
  · exact (List.getD_eq_default _ _ (by simp; omega)).symm

/-- A length that fits the buffer fits `OLEN` (R5, R22). -/
theorem writeOutput_OLEN_toNat {s : State} {len : Nat} (h : len ≤ s.bufBytes.bytes) (out : List Byte) :
    (writeOutput out len s).OLEN.toNat = len := by
  have hmost := s.bufBytes.most
  simp only [writeOutput_OLEN, BitVec.toNat_ofNat]
  omega

/-- The output message is the bytes that were stored. -/
theorem outputBytes_writeOutput {out : List Byte} {len : Nat} (h : out.length = len) (s : State) :
    outputBytes (writeOutput out len s) len = out := by
  refine List.ext_getElem (by simp [h]) fun k _ hk => ?_
  simp [outputBytes, obufByte_writeOutput, hk]

/-- The host's copy makes the output message the input message (R99). -/
theorem inputBytes_copyOutputBack (s : State) :
    inputBytes (copyOutputBack s) (copyOutputBack s).ILEN.toNat = outputBytes s s.OLEN.toNat := by
  refine List.map_congr_left fun k hk => ?_
  have hk' : k < s.OLEN.toNat := List.mem_range.1 hk
  simp [ibufByte, copyOutputBack, lookup_writeBytes, hk', outputBytes]

/-! ### What the message commands do (44_message_codec.md R95, R96) -/

/-- The bytes that ENCM writes (R95). -/
def encryptedBytes (s : State) : List Byte := mapBlocks (encBlock s.P s.S) (pad (inputBytes s s.ILEN.toNat))

/-- The state that ENCM leaves when it completes (R95); `exec_encm_of_fits` ties it to the command. -/
def encmDone (s : State) : State := clearError (writeOutput (encryptedBytes s) (pad8 s.ILEN.toNat) s)

/-- The state that DECM leaves when it completes (R96); `exec_decm_of_fits` ties it to the command. -/
def decmDone (s : State) : State :=
  clearError (writeOutput (decryptedBytes s s.ILEN.toNat) (stripLen (decryptedBytes s s.ILEN.toNat) s.ILEN.toNat) s)

section
variable {s t : State}

/-- Keyed and with a message that fits, ENCM completes (R95). -/
theorem exec_encm_of_fits (hk : s.KEYED = true) (hfits : pad8 s.ILEN.toNat ≤ s.bufBytes.bytes) :
    exec .encm s = .next (encmDone s) := by
  simp [exec, execEncm, hk, Nat.not_lt.2 hfits, encmDone, encryptedBytes]

/-- Keyed and with a message that does not fit, ENCM raises LENGTH (R95). -/
theorem exec_encm_of_too_long (hk : s.KEYED = true) (hlong : s.bufBytes.bytes < pad8 s.ILEN.toNat) :
    exec .encm s = .next (raiseError .length s) := by
  simp [exec, execEncm, hk, hlong]

/-- Keyed and with whole blocks that fit, DECM completes (R96). -/
theorem exec_decm_of_fits (hk : s.KEYED = true) (hmod : s.ILEN.toNat % 8 = 0)
    (hfits : s.ILEN.toNat ≤ s.bufBytes.bytes) : exec .decm s = .next (decmDone s) := by
  simp [exec, execDecm, hk, hmod, Nat.not_lt.2 hfits, decmDone]

/-- Keyed and with a part of a block, DECM raises TRUNCATED_BLOCK, whatever fits (R96, R115). -/
theorem exec_decm_of_truncated (hk : s.KEYED = true) (hmod : s.ILEN.toNat % 8 ≠ 0) :
    exec .decm s = .next (raiseError .truncatedBlock s) := by
  simp [exec, execDecm, hk, hmod]

/-- Keyed and with whole blocks that do not fit, DECM raises LENGTH (R96). -/
theorem exec_decm_of_too_long (hk : s.KEYED = true) (hmod : s.ILEN.toNat % 8 = 0)
    (hlong : s.bufBytes.bytes < s.ILEN.toNat) : exec .decm s = .next (raiseError .length s) := by
  simp [exec, execDecm, hk, hmod, hlong]

/-- An ENCM that ends without error had a message that fits. -/
theorem eq_encmDone_of_ok (h : exec .encm s = .next t) (hok : t.ERR = .ok) :
    pad8 s.ILEN.toNat ≤ s.bufBytes.bytes ∧ t = encmDone s := by
  rcases execEncm_next h with ⟨-, rfl⟩ | ⟨-, -, rfl⟩ | ⟨-, hfits, rfl⟩
  · cases hok
  · cases hok
  · exact ⟨hfits, rfl⟩

/-- A DECM that ends without error had a message of whole blocks. -/
theorem eq_decmDone_of_ok (h : exec .decm s = .next t) (hok : t.ERR = .ok) :
    s.ILEN.toNat % 8 = 0 ∧ t = decmDone s := by
  rcases execDecm_next h with ⟨-, rfl⟩ | ⟨-, -, rfl⟩ | ⟨-, -, -, rfl⟩ | ⟨-, hmod, -, rfl⟩
  · cases hok
  · cases hok
  · cases hok
  · exact ⟨hmod, rfl⟩

/-- `OLEN` after ENCM is the padded length (R95). -/
theorem encmDone_OLEN_toNat (hfits : pad8 s.ILEN.toNat ≤ s.bufBytes.bytes) :
    (encmDone s).OLEN.toNat = pad8 s.ILEN.toNat :=
  writeOutput_OLEN_toNat hfits (encryptedBytes s)

/-- `OLEN` after DECM is the stripped length (R96, R98). -/
theorem decmDone_OLEN_toNat (hfits : s.ILEN.toNat ≤ s.bufBytes.bytes) :
    (decmDone s).OLEN.toNat = stripLen (decryptedBytes s s.ILEN.toNat) s.ILEN.toNat :=
  writeOutput_OLEN_toNat ((stripLen_le _ _).trans hfits) (decryptedBytes s s.ILEN.toNat)

/-- Byte `a` of the message that DECM wrote. -/
theorem obufByte_decmDone (hmod : s.ILEN.toNat % 8 = 0) {a : Nat} (ha : a < s.ILEN.toNat) :
    obufByte (decmDone s) a = (decryptedBytes s s.ILEN.toNat).getD a 0 := by
  rw [decmDone, obufByte_clearError, obufByte_writeOutput, decryptedBytes_length s hmod, if_pos ha]

/-- Block `k` that ENCM wrote is the encrypted block `k` of the padded message (R95). -/
theorem blockAt_encmDone {k : Nat} (hk : 8 * k < pad8 s.ILEN.toNat) : blockAt (obufByte (encmDone s)) k =
    encBlock s.P s.S (blockAt (paddedByte s) k).1 (blockAt (paddedByte s) k).2 := by
  rw [pad8] at hk
  rw [paddedByte_eq_getD]
  exact blockAt_obufByte_writeOutput_mapBlocks _ (pad_inputBytes_length s _) (by omega) (pad8 s.ILEN.toNat) s

/-- Block `k` that DECM wrote is the decrypted block `k` of the input (R96). -/
theorem blockAt_decmDone (hmod : s.ILEN.toNat % 8 = 0) {k : Nat} (hk : 8 * k < s.ILEN.toNat) :
    blockAt (obufByte (decmDone s)) k =
      decBlock s.P s.S (blockAt (ibufByte s) k).1 (blockAt (ibufByte s) k).2 := by
  have hlen : (inputBytes s s.ILEN.toNat).length = 8 * (s.ILEN.toNat / 8) := by
    rw [inputBytes_length]
    omega
  have hin : blockAt (ibufByte s) k = blockAt (fun i => (inputBytes s s.ILEN.toNat).getD i 0) k :=
    blockAt_congr fun j hj => (inputBytes_getD s (by omega)).symm
  rw [hin]
  exact blockAt_obufByte_writeOutput_mapBlocks _ hlen (by omega)
    (stripLen (decryptedBytes s s.ILEN.toNat) s.ILEN.toNat) s

/-- Nothing is written for the empty message (R100). -/
theorem encmDone_of_empty (h : s.ILEN.toNat = 0) : encmDone s = { s with OLEN := 0, ERR := .ok } := by
  have hout : pad (inputBytes s 0) = [] := pad_of_mod rfl
  simp only [encmDone, encryptedBytes, h, hout]
  rfl

theorem decmDone_of_empty (h : s.ILEN.toNat = 0) : decmDone s = { s with OLEN := 0, ERR := .ok } := by
  simp only [decmDone, decryptedBytes, h]
  rfl

end

/-- Settles O36: the completed ENCM block by block, and its two errors. -/
theorem encmEncryptsMessage : Obligations.EncmEncryptsMessage := by
  refine ⟨decode_encode .encm, fun s => ⟨fun hk hfits => ?_, exec_unkeyed (i := .encm) nofun, exec_encm_of_too_long⟩⟩
  have hexec := exec_encm_of_fits hk hfits
  exact ⟨encmDone s, hexec, encmDone_OLEN_toNat hfits, fun k hk => blockAt_encmDone (by omega),
    (execEncm_frame hexec).2, fun _ => rfl, rfl⟩

/-- Settles O37: the completed DECM block by block, the stripped length from its own laws, and the three errors. -/
theorem decmDecryptsMessage : Obligations.DecmDecryptsMessage := by
  refine ⟨decode_encode .decm, fun s => ⟨fun hk hmod hfits => ?_, exec_unkeyed (i := .decm) nofun,
    exec_decm_of_truncated, exec_decm_of_too_long⟩⟩
  have hexec := exec_decm_of_fits hk hmod hfits
  have hle := stripLen_le (decryptedBytes s s.ILEN.toNat) s.ILEN.toNat
  refine ⟨decmDone s, hexec, fun k hk => blockAt_decmDone hmod (by omega), ?_, ?_, ?_, (execDecm_frame hexec).2,
    fun _ => rfl, rfl⟩
  all_goals rw [decmDone_OLEN_toNat hfits]
  · exact hle
  · intro a ha han
    rw [obufByte_decmDone hmod han, getD_eq_zero_of_stripLen_le ha han]
  · intro hpos
    rw [obufByte_decmDone hmod (by omega)]
    exact getD_stripLen_pred_ne_zero hpos

/-- Settles O39: each output block is the same transform of its input block, under the same `P` and `S`. -/
theorem equalBlocksTransformEqually : Obligations.EqualBlocksTransformEqually := by
  intro s s' t t' k k' _ _ hP hS
  constructor
  · intro ht ht' hok hok' hlt hlt' hblock
    obtain ⟨hfits, rfl⟩ := eq_encmDone_of_ok ht hok
    obtain ⟨hfits', rfl⟩ := eq_encmDone_of_ok ht' hok'
    rw [encmDone_OLEN_toNat hfits] at hlt
    rw [encmDone_OLEN_toNat hfits'] at hlt'
    rw [blockAt_encmDone hlt, blockAt_encmDone hlt', hP, hS, hblock]
  · intro ht ht' hok hok' hlt hlt' hblock
    obtain ⟨hmod, rfl⟩ := eq_decmDone_of_ok ht hok
    obtain ⟨hmod', rfl⟩ := eq_decmDone_of_ok ht' hok'
    rw [blockAt_decmDone hmod hlt, blockAt_decmDone hmod' hlt', hP, hS, hblock]

/-- Settles O41: since the capacity is a multiple of 8, a message and its padding fit or do not fit alike. -/
theorem tooLongMessageIsRefused : Obligations.TooLongMessageIsRefused := by
  intro s hk
  have hpad := pad8_le_iff (n := s.ILEN.toNat) s.bufBytes.multiple
  refine ⟨fun hlong => ⟨?_, exec_decm_of_truncated hk, fun hmod => exec_decm_of_too_long hk hmod hlong⟩,
    fun hfits => ⟨⟨_, exec_encm_of_fits hk (hpad.2 hfits), rfl⟩,
      fun hmod => ⟨_, exec_decm_of_fits hk hmod hfits, rfl⟩⟩⟩
  exact exec_encm_of_too_long hk (by omega)

/-- Settles O38: the empty message fits, and there is nothing to write for it. -/
theorem emptyMessage : Obligations.EmptyMessage := by
  intro s hk hlen
  have hzero : s.ILEN.toNat = 0 := by simp [hlen]
  constructor
  · rw [← encmDone_of_empty hzero]
    exact exec_encm_of_fits hk (by simp [hzero, pad8])
  · rw [← decmDone_of_empty hzero]
    exact exec_decm_of_fits hk (by simp [hzero]) (by simp [hzero])

/-! ### The round trip (44_message_codec.md R104) -/

/-- What DECM decrypts of ENCM's output is the padded message (R104). -/
theorem decryptedBytes_copyOutputBack_encmDone {s : State} (hfits : pad8 s.ILEN.toNat ≤ s.bufBytes.bytes) :
    decryptedBytes (copyOutputBack (encmDone s)) (copyOutputBack (encmDone s)).ILEN.toNat =
      pad (inputBytes s s.ILEN.toNat) := by
  have hout : outputBytes (encmDone s) (encmDone s).OLEN.toNat = encryptedBytes s := by
    rw [encmDone_OLEN_toNat hfits]
    exact outputBytes_writeOutput (encrypted_length _ s _) s
  rw [decryptedBytes, inputBytes_copyOutputBack, hout]
  exact mapBlocks_leftInverse (decBlock_encBlock s.P s.S) (pad_inputBytes_length s _)

/-- Settles O42: DECM gets the padded message back, and strips the padding with the zero bytes of the message. -/
theorem messageRoundTrip : Obligations.MessageRoundTrip := by
  intro s n hk hfits
  let c := copyOutputBack (encmDone s)
  have hclen : c.ILEN.toNat = pad8 n := encmDone_OLEN_toNat hfits
  have hcmod : c.ILEN.toNat % 8 = 0 := hclen ▸ pad8_mod n
  have hcfits : c.ILEN.toNat ≤ c.bufBytes.bytes := hclen.trans_le hfits
  have hdec : decryptedBytes c c.ILEN.toNat = pad (inputBytes s n) := decryptedBytes_copyOutputBack_encmDone hfits
  have holen : (decmDone c).OLEN.toNat = stripLen (inputBytes s n) n := by
    rw [decmDone_OLEN_toNat hcfits, hdec, hclen]
    simpa using stripLen_pad (inputBytes s n)
  refine ⟨encmDone s, decmDone c, exec_encm_of_fits hk hfits, exec_decm_of_fits hk hcmod hcfits, rfl, holen,
    fun k hlt => ?_, fun hlast => ?_⟩
  · have hkn : k < n := (holen ▸ hlt).trans_le (stripLen_le _ _)
    rw [obufByte_decmDone hcmod (hclen ▸ hkn.trans_le (le_pad8 n)), hdec, pad_getD, inputBytes_getD s hkn]
  · rw [holen]
    refine stripLen_eq_self (or_iff_not_imp_left.2 fun hne => ?_)
    rw [inputBytes_getD s (by omega)]
    exact hlast.resolve_left hne

end Sys2Proof.Machine

namespace Sys2Proof.Machine

/-! ### Errors (60_exceptions.md R113 to R115) -/

/-- A command that ends in an error has only raised it (R113). -/
theorem CommandEffect.eq_raiseError {w : Word} {s t : State} (h : CommandEffect w s t) (herr : t.ERR ≠ .ok) :
    t = raiseError t.ERR s := by
  cases h with
  | error c => rfl
  | tables Pv Sv hw hkey => exact absurd rfl herr
  | block lr hk => exact absurd rfl herr
  | message out len hw hk hout hlen => exact absurd rfl herr

/-- Settles O17: a write of `CMD` takes its event, runs its command and answers OKAY, and a command that ends in an
error has only raised it. -/
theorem errorChangesOnlyErr : Obligations.ErrorChangesOnlyErr := by
  refine ⟨fun i s t h => (exec_effect h).eq_raiseError, fun s t w rest hp hstep herr => ?_⟩
  obtain ⟨u, hu, rfl⟩ := answer_next ((step_of_writeCmd hp).symm.trans hstep)
  exact congrArg (respond .okay) ((command_effect hu).eq_raiseError herr)

section
variable (s : State)

/-! The ranking of R115 at the word of each command. -/

@[simp] theorem resultCode_keyinit :
    resultCode (encode .keyinit) s = if s.KEYLEN = 0 then .invalidKey else .ok := rfl

@[simp] theorem resultCode_encb : resultCode (encode .encb) s = if s.KEYED = false then .notKeyed else .ok := rfl

@[simp] theorem resultCode_decb : resultCode (encode .decb) s = if s.KEYED = false then .notKeyed else .ok := rfl

@[simp] theorem resultCode_encm : resultCode (encode .encm) s =
    if s.KEYED = false then .notKeyed else if s.bufBytes.bytes < pad8 s.ILEN.toNat then .length else .ok := rfl

@[simp] theorem resultCode_decm : resultCode (encode .decm) s =
    if s.KEYED = false then .notKeyed else if s.ILEN.toNat % 8 ≠ 0 then .truncatedBlock
    else if s.bufBytes.bytes < s.ILEN.toNat then .length else .ok := rfl

end

/-- The code of a word that no command has is ILLEGAL_CMD (R52). -/
theorem resultCode_of_decode_error {w : Word} {e : DecodeError} (h : decode w = .error e) (s : State) :
    resultCode w s = .illegalCmd := by
  have hne (i : Instr) : w ≠ encode i := by
    rintro rfl
    simp at h
  have h1 : w ≠ 1 := hne .keyinit
  have h2 : w ≠ 2 := hne .encb
  have h3 : w ≠ 3 := hne .decb
  have h4 : w ≠ 4 := hne .encm
  have h5 : w ≠ 5 := hne .decm
  simp only [resultCode, h1, h2, h3, h4, h5, or_self, if_false]

/-- The code that a command ends with is the first that holds in the order of R115. -/
theorem exec_ERR {i : Instr} {s t : State} (h : exec i s = .next t) : t.ERR = resultCode (encode i) s := by
  cases i with
  | keyinit => rcases execKeyinit_next h with ⟨hkey, rfl⟩ | ⟨hkey, rfl⟩ <;> simp [hkey]
  | encb => rcases execEncb_next h with ⟨hk, rfl⟩ | ⟨hk, rfl⟩ <;> simp [hk]
  | decb => rcases execDecb_next h with ⟨hk, rfl⟩ | ⟨hk, rfl⟩ <;> simp [hk]
  | encm =>
    rcases execEncm_next h with ⟨hk, rfl⟩ | ⟨hk, hlong, rfl⟩ | ⟨hk, hfits, rfl⟩
    · simp [hk]
    · simp [hk, hlong]
    · simp [hk, Nat.not_lt.2 hfits]
  | decm =>
    rcases execDecm_next h with ⟨hk, rfl⟩ | ⟨hk, hmod, rfl⟩ | ⟨hk, hmod, hlong, rfl⟩ | ⟨hk, hmod, hfits, rfl⟩
    · simp [hk]
    · simp [hk, hmod]
    · simp [hk, hmod, hlong]
    · simp [hk, hmod, Nat.not_lt.2 hfits]

/-- The code after a write of `CMD` is the one that R115 ranks first. -/
theorem command_ERR {w : Word} {s t : State} (h : command w s = .next t) : t.ERR = resultCode w s := by
  rcases command_next h with ⟨i, hi, ht⟩ | ⟨e, he, rfl⟩
  · exact eq_encode_of_decode hi ▸ exec_ERR ht
  · exact (resultCode_of_decode_error he s).symm

/-- Settles O16: the command that the write runs completes with the code of R115, and the write answers OKAY. -/
theorem errorPriority : Obligations.ErrorPriority := by
  intro s w rest hp
  obtain ⟨u, hu⟩ := command_completes w (takeEvent rest s)
  have herr : u.ERR = resultCode w (takeEvent rest s) := command_ERR hu
  exact ⟨respond .okay u, (step_of_writeCmd hp).trans (congrArg (answer .okay) hu), herr, rfl⟩

/-- Settles O18: no command tests `ERR`, and both ways to end, raising an error and completing, overwrite it. -/
theorem errorIsNotSticky : Obligations.ErrorIsNotSticky := by
  intro i s c
  cases i with
  | keyinit => simp only [exec, execKeyinit]; split <;> rfl
  | encb => simp only [exec, execEncb]; split <;> rfl
  | decb => simp only [exec, execDecb]; split <;> rfl
  | encm => simp only [exec, execEncm]; split_ifs <;> rfl
  | decm => simp only [exec, execDecm]; split_ifs <;> rfl

end Sys2Proof.Machine

namespace Sys2Proof.Machine

/-- Settles O50: unkeyed, any other command raises NOT_KEYED, and KEYINIT without a key raises INVALID_KEY. -/
theorem unkeyedOnlyKeyinitSucceeds : Obligations.UnkeyedOnlyKeyinitSucceeds := by
  intro s t i hk h hok
  by_cases hi : i = .keyinit
  · subst hi
    have herr : resultCode (encode .keyinit) s = .ok := (exec_ERR h).symm.trans hok
    exact ⟨rfl, by simpa using herr⟩
  · obtain rfl : raiseError .notKeyed s = t := by simpa [exec_unkeyed hi hk] using h
    simp at hok

end Sys2Proof.Machine
